-- ==== Sys2Proof/Config.lean ====
section
/-! DEFINITION. The capacities and the fixed identity of the part. The part leaves no value open that an
instruction produces, so no free value stands here (NOTES.md, Assumptions). -/

namespace Sys2Proof.Config

/-- Segment records in the pool (R1). -/
def poolSize : Nat := 384
/-- Longest program, in segments (R4, R7). -/
def maxProgram : Nat := 255
/-- Most segments one PROG_APPEND or PROG_READ carries (R8, R16). -/
def maxCarried : Nat := 8
/-- Entries of a scan list (R89). -/
def maxScan : Nat := 24
/-- Payload bytes of a frame (R174). -/
def maxPayload : Nat := 120
/-- Places of the receive queue and of the reply queue (R179). -/
def linkPlaces : Nat := 4
/-- Places of the report queue open to priority reports (R184). -/
def reportPlaces : Nat := 32
/-- Places of the report queue open to ordinary reports (R184). -/
def ordinaryPlaces : Nat := 28
/-- Sent and unacknowledged reports (R188). -/
def windowPlaces : Nat := 8
/-- Zero-time segments one run update may execute (R41). -/
def chainLimit : Nat := 16
/-- Largest duty (spec 00_scope.md, Duty). -/
def fullDuty : Nat := 4096
/-- Top of the integral accumulator (R74). -/
def accMax : Int := 1048576
/-- Longest duration, in interval units (spec 01_program_store.md, Segment records). -/
def maxDuration : Nat := 1048575
/-- Vendor code (R206). -/
def vendor : Nat := 0x4F57
/-- Part number (R206). -/
def part : Nat := 1216
/-- Silicon revision (R206). -/
def revision : Nat := 3

end Sys2Proof.Config
end

