-- ==== Sys2Proof/Word.lean ====
section
/-! DEFINITION. The byte of the host link and the plainest arithmetic of the part's rules. -/

namespace Sys2Proof

/-- One byte of a frame on the host link (R173, R174). -/
abbrev Byte := BitVec 8

/-- "Limited to" a range: a value outside the range is replaced by the nearer end of the range
(spec 00_scope.md, Arithmetic). -/
def limit (lo hi x : Int) : Int :=
  if x < lo then lo else if hi < x then hi else x

/-- A counter that saturates stops at its maximum value (spec 00_scope.md, Arithmetic). -/
def bump (max n : Nat) : Nat :=
  if n < max then n + 1 else max

end Sys2Proof
end

