-- ==== Sys2Proof/Syntax.lean ====
section
/-! DEFINITION. The commands of the part: one constructor for each row of spec/opcode_table.json.

A request command names the frame that the executor takes: its SEQ and its payload, as the host sent them
(R174); the KIND is the row's (R204, R207, R208, R211, R212). The other rows are the events of the line, the
timers, the converter, the pins and the modulator. Where the spec lets several things of one step come in
either order, the command carries the order (log entry 8). -/

namespace Sys2Proof

/-- What brought a hard reset about (R194). -/
inductive ResetCause where
  | powerOn
  | resetPin
  deriving DecidableEq, Repr

/-- What falls at the instant of a cycle start, one thing after the other: the cycle start itself (R131, R171), the
boundary of a zone (R132), and, where the silence timer expires at the same instant, its expiry at the link (R192) and
its hold of a zone (R62). -/
inductive CycleEvent where
  | start
  | boundary (zone : Fin 12)
  | expiry
  | hold (zone : Fin 12)
  deriving DecidableEq, Repr

/-- The rows of the table of operations and events. -/
inductive Instr where
  -- requests the executor takes from the receive queue (R179): SEQ and payload of the frame taken
  | ping (seq : Byte) (payload : List Byte)
  | identify (seq : Byte) (payload : List Byte)
  | restart (seq : Byte) (payload : List Byte)
  | allStop (seq : Byte) (payload : List Byte)
  | ackReports (seq : Byte) (payload : List Byte)
  | deviceSet (seq : Byte) (payload : List Byte)
  | deviceGet (seq : Byte) (payload : List Byte)
  | deviceCommit (seq : Byte) (payload : List Byte)
  | progOpen (seq : Byte) (payload : List Byte)
  | progAppend (seq : Byte) (payload : List Byte)
  | progSeal (seq : Byte) (payload : List Byte)
  | progDelete (seq : Byte) (payload : List Byte)
  | progInfo (seq : Byte) (payload : List Byte)
  | progRead (seq : Byte) (payload : List Byte)
  | zoneStart (seq : Byte) (payload : List Byte)
  | zoneAbort (seq : Byte) (payload : List Byte)
  | zonePause (seq : Byte) (payload : List Byte)
  | zoneResume (seq : Byte) (payload : List Byte)
  | zoneStep (seq : Byte) (payload : List Byte)
  | zoneSkip (seq : Byte) (payload : List Byte)
  | zoneTrip (seq : Byte) (payload : List Byte)
  | zoneClearTrip (seq : Byte) (payload : List Byte)
  | zoneStatus (seq : Byte) (payload : List Byte)
  | zoneSetParam (seq : Byte) (payload : List Byte)
  | zoneGetParam (seq : Byte) (payload : List Byte)
  | zoneCommit (seq : Byte) (payload : List Byte)
  | zoneDiscard (seq : Byte) (payload : List Byte)
  | sensorSet (seq : Byte) (payload : List Byte)
  | sensorRead (seq : Byte) (payload : List Byte)
  | scanSet (seq : Byte) (payload : List Byte)
  | scanGet (seq : Byte) (payload : List Byte)
  -- frames taken whose KIND the row does not fix
  | retry (seq kind : Byte) (payload : List Byte)
  | unknownKind (seq kind : Byte) (payload : List Byte)
  -- the receiver's events
  | goodFrame (seq kind : Byte) (payload : List Byte)
  | frameCrc
  | frameLength
  | frameGap
  -- the link's timers and transmitter
  | silenceTimerExpiry (order : List Nat)
  | goBack
  | frameSent
  | softReset
  -- the RESET pin or power-on, with the straps sampled at its end (R173): true is a high strap
  | hardReset (cause : ResetCause) (baud1 baud0 : Bool)
  -- the modulator
  | tick
  | cycleStart (order : List CycleEvent)
  -- the converter's code, and the order of the SENSOR_STATE reports of a takeover
  | conversionCompletion (code : BitVec 12) (order : List Nat)
  -- the level of the STOP pin at the sample: true is high (R124)
  | stopSample (high : Bool)
  | receivedByte (b : Byte)
  deriving DecidableEq, Repr

end Sys2Proof
end

