-- ==== Sys2Proof/WellFormed.lean ====
section
/-! DEFINITION. Which commands the line, the pins and the blocks can bring about at all: a frame's payload has
at most 120 bytes (R174), an UNKNOWN_KIND frame carries none of the 31 request kinds (R197), and an order lists
each zone (or sensor) once, with the cycle start before the boundaries and the expiry before its holds. A machine given a command that is not well formed still answers as Machine says. -/

namespace Sys2Proof

/-- The payload fits a frame: LENGTH is 0 to 120 (R174). -/
def payloadFits (payload : List Byte) : Bool :=
  decide (payload.length ≤ Config.maxPayload)

/-- The request kind codes are 0x01 to 0x1F (R197). -/
def isRequestKind (kind : Byte) : Bool :=
  decide (1 ≤ kind.toNat ∧ kind.toNat ≤ 31)

/-- An order of the numbers below `n`: each of them once. -/
def isOrder (n : Nat) (order : List Nat) : Bool :=
  decide (order.length = n) && order.all (fun k => decide (k < n)) && decide order.Nodup

/-- An event of the silence timer's expiry, not of the cycle start. -/
def CycleEvent.isLink : CycleEvent → Bool
  | .start | .boundary _ => false
  | .expiry | .hold _ => true

/-- A cycle start with the boundaries in zone number order. -/
def plainCycle : List CycleEvent := .start :: (List.finRange 12).map .boundary

/-- The expiry of the silence timer with its holds. -/
def linkExpiry : List CycleEvent := .expiry :: (List.finRange 12).map .hold

/-- An order of what falls at a cycle start: the cycle start and every zone's place in it, alone or with the expiry and
its hold of every zone, each once; the cycle start before the boundaries (R171) and the expiry before its holds (R192).
The boundary and the hold of a zone come in either order, zone by zone (R62). -/
def isCycleOrder (order : List CycleEvent) : Bool :=
  (order.isPerm plainCycle || order.isPerm (plainCycle ++ linkExpiry))
  && decide (order.find? (fun e => !e.isLink) = some .start)
  && decide (order.find? CycleEvent.isLink = none ∨ order.find? CycleEvent.isLink = some .expiry)

/-- The command is one that the part's surroundings can bring about. -/
def Instr.wf : Instr → Bool
  | .ping _ p | .identify _ p | .restart _ p | .allStop _ p | .ackReports _ p => payloadFits p
  | .deviceSet _ p | .deviceGet _ p | .deviceCommit _ p => payloadFits p
  | .progOpen _ p | .progAppend _ p | .progSeal _ p | .progDelete _ p => payloadFits p
  | .progInfo _ p | .progRead _ p => payloadFits p
  | .zoneStart _ p | .zoneAbort _ p | .zonePause _ p | .zoneResume _ p | .zoneStep _ p => payloadFits p
  | .zoneSkip _ p | .zoneTrip _ p | .zoneClearTrip _ p | .zoneStatus _ p => payloadFits p
  | .zoneSetParam _ p | .zoneGetParam _ p | .zoneCommit _ p | .zoneDiscard _ p => payloadFits p
  | .sensorSet _ p | .sensorRead _ p | .scanSet _ p | .scanGet _ p => payloadFits p
  | .retry _ _ p => payloadFits p
  | .unknownKind _ kind p => payloadFits p && !isRequestKind kind
  | .goodFrame _ _ p => payloadFits p
  | .frameCrc | .frameLength | .frameGap | .goBack | .frameSent | .softReset | .tick => true
  | .silenceTimerExpiry order => isOrder 12 order
  | .hardReset _ _ _ => true
  | .cycleStart order => isCycleOrder order
  | .conversionCompletion _ order => isOrder 16 order
  | .stopSample _ => true
  | .receivedByte _ => true

end Sys2Proof
end

