-- ==== Sys2Proof/Machine/State.lean ====
section
/-! DEFINITION. The state of the part: every record, table, queue, counter, mode and pin that the spec names,
as plain data, and the queue of waiting commands. Quantities in pu are Int, counts and duties Nat; the ranges the
spec gives them stand in INVENTORY.md and are kept by the operations that write them. -/

namespace Sys2Proof.Machine

/-! ## Numbers of objects -/

/-- Zones are numbered 0 to 11. -/
abbrev ZoneId := Fin 12
/-- Sensors are numbered 0 to 15. -/
abbrev SensorId := Fin 16
/-- Program slots are numbered 0 to 15. -/
abbrev SlotId := Fin 16

/-! ## Program store (01_program_store.md) -/

/-- The state of a program slot (R4). -/
inductive SlotState where
  | empty
  | opened
  | sealed
  deriving DecidableEq, Repr

/-- Why a seal failed (R10, R11, R12, R202). -/
inductive SealReason where
  | emptyProgram
  | fieldRange
  | missingField
  | endNotLast
  | noEnd
  | loopTooDeep
  | againWithoutRepeat
  | repeatUnclosed
  | emptyLoop
  deriving DecidableEq, Repr

/-- A seal result that is present: the reason and the failing segment's index (R4). -/
structure SealResult where
  reason : SealReason
  index : Nat
  deriving DecidableEq, Repr

/-- The eight bytes of a segment record exactly as a request carried them (R2, R203): byte 0, bytes 1 and 2,
bytes 3 to 5, bytes 6 and 7. -/
structure Seg where
  head : Byte
  value : BitVec 16
  duration : BitVec 24
  band : BitVec 16
  deriving DecidableEq, Repr

/-- The eight kinds of segment (R2, R203). -/
inductive SegKind where
  | ramp
  | soak
  | step
  | drive
  | rep
  | again
  | mark
  | fin
  deriving DecidableEq, Repr

/-- A slot record (R4). Its length is the length of its list of segments. -/
structure Slot where
  state : SlotState
  segs : List Seg
  useCount : Nat
  sealResult : Option SealResult
  deriving DecidableEq, Repr

/-- The program store: the pool's free count (R1) and the program table (R4). Which pool records are free is not kept:
no request can tell (R1, log entry 18). -/
structure Store where
  free : Nat
  slots : Vector Slot 16
  deriving DecidableEq, Repr

/-! ## Zone executor (03_zone_execution.md, 02_segment_semantics.md) -/

/-- The six states of a zone (R46). -/
inductive ZoneState where
  | idle
  | running
  | stepping
  | held
  | keeping
  | tripped
  deriving DecidableEq, Repr

/-- The six hold causes (R47). -/
inductive Cause where
  | host
  | brk
  | step
  | sensor
  | link
  | settle
  deriving DecidableEq, Repr

/-- A set of hold causes (R47). -/
structure Causes where
  host : Bool
  brk : Bool
  step : Bool
  sensor : Bool
  link : Bool
  settle : Bool
  deriving DecidableEq, Repr

/-- The state a HELD zone returns to (R45). -/
inductive Target where
  | running
  | keeping
  deriving DecidableEq, Repr

/-- The reasons of a ZONE_STATE report (R48). -/
inductive StateReason where
  | start
  | pause
  | brk
  | sensor
  | link
  | settle
  | stepDone
  | step
  | resume
  | fin
  | abort
  | clearTrip
  deriving DecidableEq, Repr

/-- An entry of the loop stack (R37). -/
structure Loop where
  repeatAt : Nat
  remaining : Nat
  deriving DecidableEq, Repr

/-- Outcomes of a banded STEP (R35). -/
inductive SettleOutcome where
  | settled
  | timeoutContinue
  | timeoutHold
  | released
  | skipped
  deriving DecidableEq, Repr

/-- The zone record (R45), but for its trip record. The loop stack lists the outermost entry first. -/
structure ZoneRec where
  state : ZoneState
  causes : Causes
  target : Target
  active : Option SlotId
  seg : Nat
  entered : Bool
  elapsed : Nat
  origin : Int
  stack : List Loop
  setpoint : Int
  runMark : Bool
  steps : Nat
  skip : Bool
  holdBack : Bool
  expired : Bool
  deriving DecidableEq, Repr

/-! ## Guard unit (06_guards_trips_and_the_stop_input.md) -/

/-- A guard entry (R110). -/
structure GuardEntry where
  sensor : SensorId
  high : Int
  low : Option Int
  qualify : Nat
  deriving DecidableEq, Repr

/-- Causes of trips (R116). -/
inductive TripCause where
  | guardHigh
  | guardLow
  | guardSensor
  | hostZone
  | hostAll
  | stopInput
  deriving DecidableEq, Repr

/-- What a trip record says of the guard entry that tripped (R116). -/
structure TripGuard where
  entry : Nat
  sensor : SensorId
  reading : Option Int
  deriving DecidableEq, Repr

/-- Where in its program a zone stood when it tripped (R116). -/
structure TripPlace where
  program : SlotId
  segIndex : Nat
  deriving DecidableEq, Repr

/-- A trip record (R116). -/
structure TripRec where
  cause : TripCause
  guard : Option TripGuard
  place : Option TripPlace
  before : ZoneState
  repeats : Nat
  deriving DecidableEq, Repr

/-- The excursion counters of a zone's two guard entries (R111). -/
structure Excursions where
  zero : Nat
  one : Nat
  deriving DecidableEq, Repr

/-- The qualifier of the STOP input (R124). -/
structure StopInput where
  asserted : Bool
  lowCount : Nat
  highCount : Nat
  deriving DecidableEq, Repr

/-! ## Control law unit (04_control_law.md) and governor (08_budget_governor.md) -/

/-- The regime of a frame as the control law unit records it (R74). -/
inductive RegimeKind where
  | closedLoop
  | openLoop
  | fallback
  | zero
  deriving DecidableEq, Repr

/-- The control law unit's record of a zone (R74). -/
structure Control where
  acc : Int
  lastDemand : Nat
  lastGrant : Nat
  trimmedLast : Bool
  lastRegime : RegimeKind
  deriving DecidableEq, Repr

/-- The governor's record of a zone (R149); the counted reserve is computed from the parameter records. -/
structure Share where
  holding : Nat
  trimmed : Bool
  deriving DecidableEq, Repr

/-! ## Modulation engine (07_modulation_engine.md) -/

/-- The modulator's record of a zone's frame in progress (R133). -/
structure FrameRec where
  duty : Nat
  coarse : Nat
  fine : Nat
  phase : Nat
  pos : Nat
  deriving DecidableEq, Repr

/-- The modulator's own state: the cycle counter (R131), the tick in progress (R130), and whether the first
cycle start after a hard reset is still to come (R131, R146). -/
structure Modulator where
  counter : Nat
  tick : Nat
  fresh : Bool
  deriving DecidableEq, Repr

/-! ## Staging unit (09_parameter_staging.md) -/

/-- What a held zone does (R59, R160). -/
inductive HoldAction where
  | fallback
  | regulate
  deriving DecidableEq, Repr

/-- Which level of a zone's pin is active (R137). -/
inductive Polarity where
  | activeHigh
  | activeLow
  deriving DecidableEq, Repr

/-- The reports a zone selects (R160). -/
structure Selection where
  zoneState : Bool
  segment : Bool
  mark : Bool
  settle : Bool
  deriving DecidableEq, Repr

/-- The zone parameter record (R160). -/
structure Params where
  feedback : Option SensorId
  kp : Nat
  ki : Nat
  floor : Nat
  ceiling : Nat
  slew : Option Nat
  fallback : Nat
  hold : HoldAction
  phase : Nat
  frameOffset : Nat
  weight : Nat
  reserve : Nat
  polarity : Polarity
  guards : List GuardEntry
  reports : Selection
  deriving DecidableEq, Repr

/-- The four cycle lengths (R130). -/
inductive CycleLength where
  | ms2
  | ms8
  | ms32
  | ms128
  deriving DecidableEq, Repr

/-- The device record (R169). -/
structure DeviceRec where
  cycle : CycleLength
  governor : Bool
  budget : Nat
  timeout : Nat
  ack : Bool
  resend : Nat
  deriving DecidableEq, Repr

/-- The two copies of the device record and the device pending mark (R169). -/
structure Device where
  live : DeviceRec
  staged : DeviceRec
  pending : Bool
  deriving DecidableEq, Repr

/-- All that the blocks hold of one zone: its zone record and trip record, its control law record, excursion
counters, share of the pool, frame in progress and pin (true is high), both copies of its parameters, and the
pending and restricted marks. -/
structure Zone where
  zr : ZoneRec
  trip : Option TripRec
  ctl : Control
  exc : Excursions
  share : Share
  frame : FrameRec
  pin : Bool
  live : Params
  staged : Params
  pending : Bool
  restricted : Bool
  deriving DecidableEq, Repr

/-! ## Sensor acquisition (05_sensor_acquisition.md) -/

/-- The status of a sensor (R97, R102). -/
inductive SensorStatus where
  | unscanned
  | waiting
  | valid
  | suspect
  | failed
  deriving DecidableEq, Repr

/-- The class of a reading (R99). -/
inductive ReadingClass where
  | none
  | valid
  | opened
  | short
  deriving DecidableEq, Repr

/-- The sensor record (R97). -/
structure Sensor where
  gain : Int
  offset : Int
  shift : Nat
  openAt : Option Nat
  shortAt : Option Nat
  faultCount : Nat
  status : SensorStatus
  lastCode : Nat
  lastClass : ReadingClass
  lastScaled : Option Int
  filtered : Int
  seeded : Bool
  invalids : Nat
  valids : Nat
  deriving DecidableEq, Repr

/-- The scan lists and the converter: the index of the entry being converted, or none when IDLE (R88, R90). -/
structure Scan where
  live : List SensorId
  pending : Option (List SensorId)
  converting : Option Nat
  deriving DecidableEq, Repr

/-! ## Host link (10_host_link.md, 11_requests_and_reports.md) -/

/-- The causes of STARTED (R194). -/
inductive StartCause where
  | powerOn
  | resetPin
  | soft
  deriving DecidableEq, Repr

/-- Outcomes of a COMMITTED report (R202). -/
inductive CommitOutcome where
  | applied
  | cancelled
  deriving DecidableEq, Repr

/-- The four counts of a LINK_ERROR report (R178). -/
structure LossCounts where
  gap : Nat
  length : Nat
  crc : Nat
  overrun : Nat
  deriving DecidableEq, Repr

/-- The causes for which a frame is lost (R176, R177). -/
inductive LossCause where
  | gap
  | length
  | crc
  | overrun
  deriving DecidableEq, Repr

/-- The fifteen kinds of report with their contents (R213). -/
inductive Report where
  | started (cause : StartCause)
  | linkError (counts : LossCounts)
  | linkLost (timeout : Nat)
  | linkRestored
  | lost (count : Nat)
  | zoneState (zone : ZoneId) (old new : ZoneState) (reason : StateReason) (causes : Causes)
  | segment (zone : ZoneId) (index : Nat) (kind : SegKind)
  | mark (zone : ZoneId) (tag : Nat) (brk : Bool)
  | settle (zone : ZoneId) (index : Nat) (outcome : SettleOutcome)
  | trip (zone : ZoneId) (record : TripRec)
  | committed (zone : Option ZoneId) (outcome : CommitOutcome)
  | scanTaken (count : Nat)
  | scanWithdrawn (count : Nat) (sensor : SensorId)
  | sensorState (sensor : SensorId) (status : SensorStatus)
  | budget (zone : ZoneId) (trimmed : Bool)
  | stopAsserted (tripped : Nat)
  | stopReleased
  deriving DecidableEq, Repr

/-- Where a report in the queue stands with acknowledgement (R188). -/
inductive AckState where
  | fresh
  | sent
  | due
  deriving DecidableEq, Repr

/-- A place of the report queue: the number given at admission, the report, its state (R186, R188). -/
structure Queued where
  seq : Byte
  report : Report
  st : AckState
  deriving DecidableEq, Repr

/-- A frame, less SYNC and CRC; LENGTH is the payload's length (R174). -/
structure WireFrame where
  seq : Byte
  kind : Byte
  payload : List Byte
  deriving DecidableEq, Repr

/-- The receiver (R175): COLLECTING holds the bytes of the frame after SYNC, the first received first. -/
inductive Receiver where
  | hunting
  | collecting (bytes : List Byte)
  deriving DecidableEq, Repr

/-- The retry memory when it is not empty (R180). -/
structure RetryMemory where
  seq : Byte
  crc : BitVec 16
  reply : WireFrame
  deriving DecidableEq, Repr

/-- The transmitter (R183): IDLE, or SENDING a reply or a report; for a report, whether a go-back was made
while it is being sent (R188, R190). -/
inductive Transmitter where
  | idle
  | reply (frame : WireFrame)
  | report (frame : WireFrame) (wentBack : Bool)
  deriving DecidableEq, Repr

/-- The link rates that the straps select (R173). -/
inductive LinkRate where
  | baud57600
  | baud115200
  | baud460800
  | baud921600
  deriving DecidableEq, Repr

/-- The host link. `awaitsReset` tells that an executed RESTART awaits its soft reset (R195). A running resend
timer holds the resend time it was started with (R190, R191), a running silence timer the timeout it was started
with (R192). `txd` is the TXD pin: the levels it goes through for the frame in transmission, one a bit time (true is
high); beyond its last entry, and with no frame, TXD idles high (R173). -/
structure Link where
  rate : LinkRate
  receiver : Receiver
  rxQueue : List WireFrame
  awaitsReset : Bool
  retry : Option RetryMemory
  replies : List WireFrame
  tx : Transmitter
  txd : List Bool
  runCount : Nat
  reports : List Queued
  nextSeq : Byte
  lost : Nat
  resend : Option Nat
  connected : Bool
  silence : Option Nat
  deriving DecidableEq, Repr

/-- The part, and the commands that wait for it, oldest first. -/
structure State where
  store : Store
  zones : Vector Zone 12
  sensors : Vector Sensor 16
  scan : Scan
  stop : StopInput
  modulator : Modulator
  device : Device
  link : Link
  pending : List Instr
  deriving DecidableEq, Repr

/-- Faults of a step: the spec gives the part none. Whatever a command meets is answered by a status, a report
or a loss count, which are effects on the state, so no constructor stands here (log entry 1). -/
inductive Fault where
  deriving DecidableEq, Repr

/-- Refusals of a step. -/
inductive Refusal where
  /-- Raised by an arm of exec that has no meaning yet; no arm of this model raises it. Safe: the machine stops. -/
  | notModelled (mnemonic : String)
  deriving DecidableEq, Repr

/-! ## The values after a hard reset -/

/-- No hold cause. -/
def Causes.none : Causes := ⟨false, false, false, false, false, false⟩

/-- A zone record after a hard reset (R72, R44). -/
def ZoneRec.reset : ZoneRec :=
  { state := .idle, causes := .none, target := .running, active := Option.none, seg := 0, entered := false,
    elapsed := 0, origin := 0, stack := [], setpoint := 0, runMark := false, steps := 0, skip := false,
    holdBack := false, expired := false }

/-- A control law record after either reset (R87). -/
def Control.reset : Control :=
  { acc := 0, lastDemand := 0, lastGrant := 0, trimmedLast := false, lastRegime := .zero }

/-- The default zone parameters (R160). -/
def Params.default : Params :=
  { feedback := Option.none, kp := 64, ki := 4, floor := 0, ceiling := 4096, slew := Option.none, fallback := 0,
    hold := .fallback, phase := 0, frameOffset := 0, weight := 0, reserve := 0, polarity := .activeHigh,
    guards := [], reports := ⟨true, true, true, true⟩ }

/-- The default device record (R169). -/
def DeviceRec.default : DeviceRec :=
  { cycle := .ms8, governor := false, budget := 0, timeout := 20, ack := false, resend := 5 }

/-- All of one zone after a hard reset (R72, R87, R128, R146, R158, R172). -/
def Zone.reset : Zone :=
  { zr := .reset, trip := Option.none, ctl := .reset, exc := ⟨0, 0⟩, share := ⟨0, false⟩,
    frame := ⟨0, 0, 0, 0, 0⟩, pin := false, live := .default, staged := .default, pending := false,
    restricted := false }

/-- A sensor record after a hard reset (R97, R108). -/
def Sensor.reset : Sensor :=
  { gain := 1024, offset := 0, shift := 0, openAt := some 4095, shortAt := Option.none, faultCount := 3,
    status := .unscanned, lastCode := 0, lastClass := .none, lastScaled := Option.none, filtered := 0,
    seeded := false, invalids := 0, valids := 0 }

/-- An empty slot (R4, R20). -/
def Slot.reset : Slot := { state := .empty, segs := [], useCount := 0, sealResult := Option.none }

/-- The host link at the end of a hard reset, STARTED already admitted (R194, R196). TXD is high, as it was while the
RESET pin was low (R173). -/
def Link.reset (rate : LinkRate) (cause : StartCause) : Link :=
  { rate := rate, receiver := .hunting, rxQueue := [], awaitsReset := false, retry := Option.none, replies := [],
    tx := .idle, txd := [], runCount := 0, reports := [⟨0, .started cause, .fresh⟩], nextSeq := 1, lost := 0,
    resend := Option.none, connected := true, silence := some 20 }

/-- The part at the end of a hard reset with the given link rate and cause. -/
def State.afterHardReset (rate : LinkRate) (cause : StartCause) : State :=
  { store := { free := Config.poolSize, slots := Vector.replicate 16 .reset }
    zones := Vector.replicate 12 .reset
    sensors := Vector.replicate 16 .reset
    scan := { live := [], pending := Option.none, converting := Option.none }
    stop := { asserted := false, lowCount := 0, highCount := 0 }
    modulator := { counter := 0, tick := 0, fresh := true }
    device := { live := .default, staged := .default, pending := false }
    link := Link.reset rate cause
    pending := [] }

/-- The part right after power-on. The straps are outside the part; they are taken low, and the cause as
POWER_ON (DESIGN CHOICE, unsafe: log entry 10). Nothing else here is chosen. -/
def State.reset : State := State.afterHardReset .baud57600 .powerOn

end Sys2Proof.Machine
end

