-- ==== Sys2Proof/Machine/Flags.lean ====
section
/-! DEFINITION. Sets, marks and statuses that are computed: the hold causes (R47), the active states (R46), the
usable statuses (R47), the class and the status of a reading (R99, R102, R113), the pin levels (R137) and the
frame worth (R25). -/

namespace Sys2Proof.Machine

/-! ## Hold causes (R47) -/

/-- The set of one cause. -/
def Causes.only : Cause → Causes
  | .host => { Causes.none with host := true }
  | .brk => { Causes.none with brk := true }
  | .step => { Causes.none with step := true }
  | .sensor => { Causes.none with sensor := true }
  | .link => { Causes.none with link := true }
  | .settle => { Causes.none with settle := true }

/-- Union. -/
def Causes.union (a b : Causes) : Causes :=
  ⟨a.host || b.host, a.brk || b.brk, a.step || b.step, a.sensor || b.sensor, a.link || b.link,
    a.settle || b.settle⟩

/-- The causes of both sets. -/
def Causes.inter (a b : Causes) : Causes :=
  ⟨a.host && b.host, a.brk && b.brk, a.step && b.step, a.sensor && b.sensor, a.link && b.link,
    a.settle && b.settle⟩

/-- The causes of the first set that are not in the second. -/
def Causes.minus (a b : Causes) : Causes :=
  ⟨a.host && !b.host, a.brk && !b.brk, a.step && !b.step, a.sensor && !b.sensor, a.link && !b.link,
    a.settle && !b.settle⟩

/-- The empty set. -/
def Causes.isEmpty (c : Causes) : Bool :=
  !(c.host || c.brk || c.step || c.sensor || c.link || c.settle)

/-- The cause set a ZONE_RESUME carries: bits 0 to 5; bits 6 and 7 are not read (R198, R202). -/
def Causes.ofByte (b : Byte) : Causes :=
  ⟨b.getLsbD 0, b.getLsbD 1, b.getLsbD 2, b.getLsbD 3, b.getLsbD 4, b.getLsbD 5⟩

/-! ## Zone states (R46) -/

/-- A zone is active in RUNNING, STEPPING, HELD and KEEPING. -/
def ZoneState.isActive : ZoneState → Bool
  | .running | .stepping | .held | .keeping => true
  | .idle | .tripped => false

/-- The states in which a zone holds a program: RUNNING, STEPPING, and HELD with resume target RUNNING (R17). -/
def ZoneRec.holdsProgram (r : ZoneRec) : Bool :=
  match r.state with
  | .running | .stepping => true
  | .held => decide (r.target = .running)
  | _ => false

/-- The resume target written when a zone enters HELD from a state (R47). -/
def targetFrom : ZoneState → Target
  | .keeping => .keeping
  | _ => .running

/-! ## Sensors (R47, R99, R102) -/

/-- A sensor is usable when its status is VALID or SUSPECT (R47). -/
def SensorStatus.usable : SensorStatus → Bool
  | .valid | .suspect => true
  | _ => false

/-- The class of a code: OPEN is tested first, then SHORT (R99). -/
def classify (n : Sensor) (code : Nat) : ReadingClass :=
  if n.openAt.any (· ≤ code) then .opened
  else if n.shortAt.any (code ≤ ·) then .short
  else .valid

/-- The status after a completion, from the status before it and the counts after it (R102). -/
def nextStatus (before : SensorStatus) (validReading : Bool) (valids invalids faultCount : Nat) :
    SensorStatus :=
  match before, validReading with
  | .unscanned, _ => .unscanned
  | .failed, true => if faultCount ≤ valids then .valid else .failed
  | .failed, false => .failed
  | _, true => .valid
  | .waiting, false => if faultCount ≤ invalids then .failed else .waiting
  | _, false => if faultCount ≤ invalids then .failed else .suspect

/-- Which side of a guard entry's limits a scaled reading lies (R113). -/
inductive Judged where
  | high
  | low
  | inside
  deriving DecidableEq, Repr

/-- The two tests of R113: the high limit first, a reading equal to a limit inside. -/
def judge (g : GuardEntry) (reading : Int) : Judged :=
  if g.high < reading then .high
  else if g.low.any (reading < ·) then .low
  else .inside

/-! ## Pins and time base -/

/-- The level of a pin (true is high) for an active or inactive tick (R137). -/
def level (p : Polarity) (active : Bool) : Bool :=
  match p with
  | .activeHigh => active
  | .activeLow => !active

/-- The frame worth of a cycle length, in interval units (R25). -/
def CycleLength.worth : CycleLength → Nat
  | .ms2 => 1 | .ms8 => 4 | .ms32 => 16 | .ms128 => 64

/-- The link rate the straps select (R173). -/
def rateOf (baud1 baud0 : Bool) : LinkRate :=
  match baud1, baud0 with
  | false, false => .baud57600
  | false, true => .baud115200
  | true, false => .baud460800
  | true, true => .baud921600

/-- The cause that STARTED carries after a hard reset (R194). -/
def startCause : ResetCause → StartCause
  | .powerOn => .powerOn
  | .resetPin => .resetPin

end Sys2Proof.Machine
end

