-- ==== Sys2Proof/Machine/Wire.lean ====
section
/-! DEFINITION. The wire: byte order, the CRC, the bytes of a frame, the numeric codes of enumerated values
(R202), the segment record (R203), the status replies (R199 to R201), the trip record (R210) and the report
payloads (R213). -/

namespace Sys2Proof.Machine

/-! ## Numbers in a payload (R198: high byte first, two's complement for signed quantities) -/

/-- One unsigned byte. -/
def byte (n : Nat) : Byte := BitVec.ofNat 8 n

/-- Two bytes, high byte first. -/
def be16 (n : Nat) : List Byte := [byte (n / 256), byte n]

/-- Three bytes, high byte first. -/
def be24 (n : Nat) : List Byte := [byte (n / 65536), byte (n / 256), byte n]

/-- Two bytes of a signed quantity. -/
def beS16 (x : Int) : List Byte := be16 (x % 65536).toNat

/-- The payload byte at a position. Lengths are checked before any byte is read (R198). -/
def at8 (p : List Byte) (i : Nat) : Byte := p.getD i 0

/-- The unsigned byte at a position. -/
def nat8 (p : List Byte) (i : Nat) : Nat := (at8 p i).toNat

/-- The unsigned two-byte number at a position. -/
def nat16 (p : List Byte) (i : Nat) : Nat := nat8 p i * 256 + nat8 p (i + 1)

/-- The signed two-byte number at a position. -/
def int16 (p : List Byte) (i : Nat) : Int :=
  if nat16 p i < 32768 then (nat16 p i : Int) else (nat16 p i : Int) - 65536

/-- A bit of the byte at a position. -/
def bitAt (p : List Byte) (i k : Nat) : Bool := (at8 p i).getLsbD k

/-- A flag as a byte. -/
def flagByte (b : Bool) : Byte := if b then 1 else 0

/-- A flag as the bit of weight `w`. -/
def flagBit (b : Bool) (w : Nat) : Nat := if b then w else 0

/-! ## The CRC and the frame (R174) -/

/-- One bit of the CRC: the register shifted left, with the polynomial 0x1021 where a one leaves it. -/
def crcBit (r : BitVec 16) : BitVec 16 :=
  if r.getLsbD 15 then (r <<< 1) ^^^ 0x1021#16 else r <<< 1

/-- One byte of the CRC, most significant bit first. -/
def crcByte (r : BitVec 16) (b : Byte) : BitVec 16 :=
  crcBit (crcBit (crcBit (crcBit (crcBit (crcBit (crcBit (crcBit (r ^^^ (b.zeroExtend 16 <<< 8)))))))))

/-- The CRC of bytes in the order sent: initial value 0xFFFF, no final inversion. -/
def crc16 (bytes : List Byte) : BitVec 16 := bytes.foldl crcByte 0xFFFF#16

/-- The bytes of a frame that its CRC covers: LENGTH, SEQ, KIND and payload. -/
def WireFrame.body (f : WireFrame) : List Byte :=
  byte f.payload.length :: f.seq :: f.kind :: f.payload

/-- The CRC of a frame. -/
def WireFrame.crc (f : WireFrame) : BitVec 16 := crc16 f.body

/-- A frame as the line carries it: SYNC, LENGTH, SEQ, KIND, payload, CRC high byte, CRC low byte. -/
def WireFrame.bytes (f : WireFrame) : List Byte :=
  0xC3 :: (f.body ++ be16 f.crc.toNat)

/-! ## TXD (R173) -/

/-- A byte on the line: the start bit low, the eight data bits, least significant first, the stop bit high. -/
def lineBits (b : Byte) : List Bool := false :: ((List.range 8).map b.getLsbD ++ [true])

/-- The levels of TXD for a frame: its bytes back to back, one level a bit time. -/
def WireFrame.levels (f : WireFrame) : List Bool := f.bytes.flatMap lineBits

/-- The levels of TXD for what the transmitter sends; none when it is IDLE, and TXD stays high. -/
def Transmitter.levels : Transmitter → List Bool
  | .idle => []
  | .reply f => f.levels
  | .report f _ => f.levels

/-! ## Numeric codes (R202) -/

def ZoneState.code : ZoneState → Byte
  | .idle => 0 | .running => 1 | .stepping => 2 | .held => 3 | .keeping => 4 | .tripped => 5

def SlotState.code : SlotState → Byte
  | .empty => 8 | .opened => 9 | .sealed => 10

def Causes.code (c : Causes) : Byte :=
  byte (flagBit c.host 1 + flagBit c.brk 2 + flagBit c.step 4 + flagBit c.sensor 8 + flagBit c.link 16
    + flagBit c.settle 32)

def StateReason.code : StateReason → Byte
  | .start => 1 | .pause => 2 | .brk => 3 | .sensor => 4 | .link => 5 | .settle => 6 | .stepDone => 7
  | .step => 8 | .resume => 9 | .fin => 10 | .abort => 11 | .clearTrip => 12

def SealReason.code : SealReason → Byte
  | .emptyProgram => 1 | .fieldRange => 2 | .missingField => 3 | .endNotLast => 4 | .noEnd => 5
  | .loopTooDeep => 6 | .againWithoutRepeat => 7 | .repeatUnclosed => 8 | .emptyLoop => 9

def SegKind.code : SegKind → Byte
  | .ramp => 1 | .soak => 2 | .step => 3 | .drive => 4 | .rep => 5 | .again => 6 | .mark => 7 | .fin => 8

def TripCause.code : TripCause → Byte
  | .guardHigh => 1 | .guardLow => 2 | .guardSensor => 3 | .hostZone => 4 | .hostAll => 5 | .stopInput => 6

def SettleOutcome.code : SettleOutcome → Byte
  | .settled => 1 | .timeoutContinue => 2 | .timeoutHold => 3 | .released => 4 | .skipped => 5

def SensorStatus.code : SensorStatus → Byte
  | .unscanned => 0 | .waiting => 1 | .valid => 2 | .suspect => 3 | .failed => 4

def ReadingClass.code : ReadingClass → Byte
  | .none => 0 | .valid => 1 | .opened => 2 | .short => 3

def StartCause.code : StartCause → Byte
  | .powerOn => 1 | .resetPin => 2 | .soft => 3

/-- A report selection. R202 and R211 name bits 0 to 3; bits 4 to 7 are sent as 0 (DESIGN CHOICE, log entry 26). -/
def Selection.code (r : Selection) : Byte :=
  byte (flagBit r.zoneState 1 + flagBit r.segment 2 + flagBit r.mark 4 + flagBit r.settle 8)

def HoldAction.code : HoldAction → Byte
  | .fallback => 0 | .regulate => 1

def Polarity.code : Polarity → Byte
  | .activeHigh => 0 | .activeLow => 1

def CommitOutcome.code : CommitOutcome → Byte
  | .applied => 1 | .cancelled => 2

/-- The cycle length in milliseconds (R204). -/
def CycleLength.code : CycleLength → Byte
  | .ms2 => 2 | .ms8 => 8 | .ms32 => 32 | .ms128 => 128

/-! ## The segment record (R203) -/

/-- The segment whose eight bytes stand from position `i` of a payload. -/
def segAt (p : List Byte) (i : Nat) : Seg :=
  { head := at8 p i
    value := at8 p (i + 1) ++ at8 p (i + 2)
    duration := at8 p (i + 3) ++ at8 p (i + 4) ++ at8 p (i + 5)
    band := at8 p (i + 6) ++ at8 p (i + 7) }

/-- The eight bytes of a segment. -/
def Seg.bytes (g : Seg) : List Byte :=
  [g.head, g.value.extractLsb' 8 8, g.value.extractLsb' 0 8,
    g.duration.extractLsb' 16 8, g.duration.extractLsb' 8 8, g.duration.extractLsb' 0 8,
    g.band.extractLsb' 8 8, g.band.extractLsb' 0 8]

/-- The segments of a payload, one every eight bytes from position `i`. -/
def segsFrom (p : List Byte) (i : Nat) : Nat → List Seg
  | 0 => []
  | n + 1 => segAt p i :: segsFrom p (i + 8) n

/-- The kind, where the kind code names one of the eight. -/
def Seg.kind (g : Seg) : Option SegKind :=
  match g.head.toNat / 8 with
  | 1 => some .ramp
  | 2 => some .soak
  | 3 => some .step
  | 4 => some .drive
  | 5 => some .rep
  | 6 => some .again
  | 7 => some .mark
  | 8 => some .fin
  | _ => none

/-- The duration, absent when its present bit is clear. -/
def Seg.duration? (g : Seg) : Option Nat :=
  if g.head.getLsbD 2 then some g.duration.toNat else none

/-- The band, absent when its present bit is clear. -/
def Seg.band? (g : Seg) : Option Nat :=
  if g.head.getLsbD 1 then some g.band.toNat else none

/-- The option bit: the timeout action CONTINUE of a STEP, the break of a MARK, the final KEEP of an END. -/
def Seg.option (g : Seg) : Bool := g.head.getLsbD 0

/-- The target of a RAMP or STEP, signed. -/
def Seg.target (g : Seg) : Int := g.value.toInt

/-- The duty of a DRIVE, the count of a REPEAT or the tag of a MARK. -/
def Seg.number (g : Seg) : Nat := g.value.toNat

/-! ## Replies (R199, R200, R201) -/

/-- The fields a BAD_VALUE reply can name (R201). -/
inductive Field where
  | zone | slot | program | count | first | sensor
  | feedback | kp | ki | floor | ceiling | slew | fallback | holdAction | phase | frameOffset
  | weight | reserve | polarity | guard | reports
  | cycle | governor | budget | timeout | ack | resend
  | gain | offset | shift | openAt | shortAt | fault | copy
  deriving DecidableEq, Repr

def Field.code : Field → Byte
  | .zone => 1 | .slot => 2 | .program => 3 | .count => 4 | .first => 5 | .sensor => 6
  | .feedback => 7 | .kp => 8 | .ki => 9 | .floor => 10 | .ceiling => 11 | .slew => 12
  | .fallback => 13 | .holdAction => 14 | .phase => 15 | .frameOffset => 16 | .weight => 17
  | .reserve => 18 | .polarity => 19 | .guard => 20 | .reports => 21
  | .cycle => 22 | .governor => 23 | .budget => 24 | .timeout => 25 | .ack => 26 | .resend => 27
  | .gain => 28 | .offset => 29 | .shift => 30 | .openAt => 31 | .shortAt => 32 | .fault => 33
  | .copy => 34

/-- The statuses of a reply with their details (R200). -/
inductive Status where
  | ok
  | pending
  | part
  | unknownKind
  | badLength
  | badValue (field : Field)
  | badState (code : Byte)
  | inUse (detail : Nat)
  | noSpace (free length : Nat)
  | commitPending
  | stillActive (entry : Nat) (sensor : SensorId)
  | stopped
  | notIdle
  | notReady (sensor : Option SensorId)
  | invalidProgram (index : Nat) (reason : SealReason)
  deriving DecidableEq, Repr

/-- The bytes of a status and its details (R199, R200). -/
def Status.bytes : Status → List Byte
  | .ok => [0x00]
  | .pending => [0x01]
  | .part => [0x02]
  | .unknownKind => [0x10]
  | .badLength => [0x11]
  | .badValue f => [0x12, f.code]
  | .badState c => [0x13, c]
  | .inUse d => [0x14, byte d]
  | .noSpace free len => 0x15 :: (be16 free ++ [byte len])
  | .commitPending => [0x16]
  | .stillActive e i => [0x17, byte e, byte i.val]
  | .stopped => [0x18]
  | .notIdle => [0x19]
  | .notReady (some i) => [0x1A, byte i.val]
  | .notReady none => [0x1A, 0xFF]
  | .invalidProgram i r => [0x1B, byte i, r.code]

/-! ## Trip records and reports (R210, R213) -/

/-- The ten bytes of a trip record; a field that is not present is sent as 0. R210 names bits 0 to 2 of the presence
flags; bits 3 to 7 are sent as 0 (DESIGN CHOICE, log entry 26). -/
def TripRec.bytes (t : TripRec) : List Byte :=
  let reading : Option Int := t.guard.bind (·.reading)
  [t.cause.code,
    byte (flagBit t.guard.isSome 1 + flagBit reading.isSome 2 + flagBit t.place.isSome 4),
    byte ((t.guard.map (·.entry)).getD 0),
    byte ((t.guard.map (·.sensor.val)).getD 0)]
  ++ beS16 (reading.getD 0)
  ++ [byte ((t.place.map (·.program.val)).getD 0),
    byte ((t.place.map (·.segIndex)).getD 0),
    t.before.code,
    byte t.repeats]

/-- The kind code of a report, bit 7 set and bit 6 clear. -/
def Report.code : Report → Byte
  | .started _ => 0x81
  | .linkError _ => 0x82
  | .linkLost _ => 0x83
  | .linkRestored => 0x84
  | .lost _ => 0x85
  | .zoneState .. => 0x86
  | .segment .. => 0x87
  | .mark .. => 0x88
  | .settle .. => 0x89
  | .trip .. => 0x8A
  | .committed .. => 0x8B
  | .scanTaken _ => 0x8C
  | .scanWithdrawn .. => 0x8C
  | .sensorState .. => 0x8D
  | .budget .. => 0x8E
  | .stopAsserted _ => 0x8F
  | .stopReleased => 0x8F

/-- The payload of a report. -/
def Report.payload : Report → List Byte
  | .started c => [c.code]
  | .linkError n => [byte n.gap, byte n.length, byte n.crc, byte n.overrun]
  | .linkLost t => [byte t]
  | .linkRestored => []
  | .lost n => be16 n
  | .zoneState z old new reason causes => [byte z.val, old.code, new.code, reason.code, causes.code]
  | .segment z i k => [byte z.val, byte i, k.code]
  | .mark z tag brk => [byte z.val, byte tag, flagByte brk]
  | .settle z i o => [byte z.val, byte i, o.code]
  | .trip z t => byte z.val :: t.bytes
  | .committed (some z) o => [byte z.val, o.code]
  | .committed none o => [0xFF, o.code]
  | .scanTaken n => [1, byte n, 0xFF]
  | .scanWithdrawn n i => [2, byte n, byte i.val]
  | .sensorState i st => [byte i.val, st.code]
  | .budget z b => [byte z.val, flagByte b]
  | .stopAsserted n => [1, byte n]
  | .stopReleased => [2, 0]

/-- The priority class of the report queue (R184, R213). -/
def Report.priority : Report → Bool
  | .started _ | .linkLost _ | .lost _ | .trip .. | .stopAsserted _ | .stopReleased => true
  | _ => false

/-- The frame that carries a queued report (R197, R213). -/
def Queued.frame (q : Queued) : WireFrame :=
  { seq := q.seq, kind := q.report.code, payload := q.report.payload }

end Sys2Proof.Machine
end

