-- ==== Sys2Proof/Machine/Segment.lean ====
section
/-! DEFINITION. What a zone does at the executor's stage of its boundary (02_segment_semantics.md and
03_zone_execution.md, R22 to R43 and R53 to R60, R67), as a function of the zone record and of what the zone reads:
its program, its live parameters, its feedback sensor and the frame worth. -/

namespace Sys2Proof.Machine

/-- What the executor's stage of one zone reads. `usable` tells that the live feedback sensor is present and
usable (R47); `pv` is its filtered value. -/
structure RunEnv where
  zone : ZoneId
  prog : List Seg
  live : Params
  usable : Bool
  pv : Int
  worth : Nat
  deriving DecidableEq, Repr

/-- The regime of the coming frame with its setpoint or duty (R23, and 03_zone_execution.md, The zone's
boundary). -/
inductive Regime where
  | closed (setpoint : Int)
  | opened (duty : Nat)
  | fallback
  | zero
  deriving DecidableEq, Repr

/-- What the executor's stage leaves: the zone record, the reports in the order of their events, the regime, and
whether the zone released its program. -/
structure Update where
  zr : ZoneRec
  reports : List Report
  regime : Regime
  released : Bool
  deriving DecidableEq, Repr

/-! ## Kinds (R24) -/

/-- A RAMP, a SOAK or a STEP with band: the segments whose feedback check R54 and R55 make. -/
def Seg.closedTimed (g : Seg) : Bool :=
  match g.kind with
  | some .ramp | some .soak => true
  | some .step => g.band?.isSome
  | _ => false

/-- The timed kinds (R24). -/
def Seg.timed (g : Seg) : Bool := g.closedTimed || decide (g.kind = some .drive)

/-- The difference of PV and setpoint is taken exactly; outside the band when it exceeds it (R26, R29, R31). -/
def RunEnv.outside (e : RunEnv) (r : ZoneRec) (band : Nat) : Bool :=
  decide ((band : Int) < |e.pv - r.setpoint|)

/-! ## Reports of the update -/

/-- A ZONE_STATE report, if it is in the zone's live report selection (R48). -/
def RunEnv.stateReport (e : RunEnv) (old new : ZoneState) (why : StateReason) (causes : Causes) :
    List Report :=
  if e.live.reports.zoneState then [.zoneState e.zone old new why causes] else []

/-- A SEGMENT report, if selected (R27). -/
def RunEnv.segmentReport (e : RunEnv) (i : Nat) (k : SegKind) : List Report :=
  if e.live.reports.segment then [.segment e.zone i k] else []

/-- A MARK report, if selected (R39). -/
def RunEnv.markReport (e : RunEnv) (g : Seg) : List Report :=
  if e.live.reports.mark then [.mark e.zone g.number g.option] else []

/-- A SETTLE report, if selected (R35). -/
def RunEnv.settleReport (e : RunEnv) (i : Nat) (o : SettleOutcome) : List Report :=
  if e.live.reports.settle then [.settle e.zone i o] else []

/-! ## Held and keeping boundaries (R59, R60) -/

/-- The regime of the frame after a held boundary (R59). -/
def RunEnv.heldRegime (e : RunEnv) (r : ZoneRec) : Regime :=
  match e.live.hold with
  | .fallback => .fallback
  | .regulate =>
    match e.prog[r.seg]? with
    | some g =>
      if r.target = .running ∧ r.entered = true ∧ g.kind = some .drive then .opened g.number
      else if e.usable then .closed r.setpoint else .fallback
    | none => if e.usable then .closed r.setpoint else .fallback

/-- The zone record as it enters HELD at its own boundary (R47, R54, R57, R58, R60). -/
def ZoneRec.holdAtBoundary (r : ZoneRec) (c : Cause) (target : Target) : ZoneRec :=
  { r with state := .held, causes := .only c, target := target, steps := 0, runMark := false }

/-- The zone holds at its boundary, and the rest of the boundary is a held boundary. -/
def RunEnv.hold (e : RunEnv) (r : ZoneRec) (reports : List Report) (c : Cause) (why : StateReason)
    (target : Target) (released : Bool) : Update :=
  let h := r.holdAtBoundary c target
  { zr := h
    reports := reports ++ e.stateReport r.state .held why h.causes
    regime := e.heldRegime h
    released := released }

/-- A keeping boundary (R60). -/
def RunEnv.keep (e : RunEnv) (r : ZoneRec) (reports : List Report) (released : Bool) : Update :=
  if e.usable then { zr := r, reports := reports, regime := .closed r.setpoint, released := released }
  else if e.live.feedback.isSome then e.hold r reports .sensor .sensor .keeping released
  else { zr := r, reports := reports, regime := .zero, released := released }

/-! ## Time charge and end test (R25, R26, R29, R31) -/

/-- A banded RAMP or SOAK is charged unless PV is outside its band; the hold-back flag tells which (R29, R31). -/
def RunEnv.chargeBanded (e : RunEnv) (r : ZoneRec) (band : Nat) : ZoneRec :=
  if e.outside r band then { r with holdBack := true }
  else { r with elapsed := r.elapsed + e.worth, holdBack := false }

/-- The time charge of the entered current segment when the run mark is set (R25). -/
def RunEnv.charge (e : RunEnv) (g : Seg) (r : ZoneRec) : ZoneRec :=
  if r.runMark then
    match g.kind with
    | some .ramp | some .soak =>
      match g.band? with
      | some band => e.chargeBanded r band
      | none => { r with elapsed := r.elapsed + e.worth }
    | some .drive => { r with elapsed := r.elapsed + e.worth }
    | some .step => if g.duration?.isSome then { r with elapsed := r.elapsed + e.worth } else r
    | _ => r
  else r

/-- What the end test finds of the entered current segment. -/
inductive EndTest where
  | stays
  | ends (r : ZoneRec) (reports : List Report)
  | settleHold (r : ZoneRec) (reports : List Report)
  deriving DecidableEq, Repr

/-- The duration is present and reached (R26, tests 4 and 5). -/
def Seg.reached (g : Seg) (r : ZoneRec) : Bool := g.duration?.any (· ≤ r.elapsed)

/-- The end test of a STEP with band (R26, R33, R34, R35). -/
def RunEnv.endTestStep (e : RunEnv) (g : Seg) (band : Nat) (r : ZoneRec) : EndTest :=
  if r.skip then
    .ends { r with skip := false, expired := false } (e.settleReport r.seg .skipped)
  else if r.expired then
    .ends { r with expired := false } (e.settleReport r.seg .released)
  else if !e.outside r band then
    .ends { r with expired := false } (e.settleReport r.seg .settled)
  else if g.reached r then
    if g.option then .ends { r with expired := false } (e.settleReport r.seg .timeoutContinue)
    else .settleHold { r with expired := true } (e.settleReport r.seg .timeoutHold)
  else .stays

/-- The end test (R26). A RAMP that ends by its duration sets the setpoint to its target (R28). -/
def RunEnv.endTest (e : RunEnv) (g : Seg) (r : ZoneRec) : EndTest :=
  match g.kind with
  | some .step =>
    match g.band? with
    | some band => e.endTestStep g band r
    | none => .stays
  | some .ramp =>
    if r.skip then .ends { r with skip := false } []
    else if g.reached r then .ends { r with setpoint := g.target } []
    else .stays
  | some .soak | some .drive =>
    if r.skip then .ends { r with skip := false } []
    else if g.reached r then .ends r []
    else .stays
  | _ => .stays

/-! ## The zero-time chain (R27, R37 to R41) -/

/-- How a chain stops (R41). `lost` is a position at which the program has no segment: no sealed program gives
it (R13; log entry 15). -/
inductive ChainStop where
  | entered
  | limit
  | broke
  | finished (keep : Bool)
  | lost
  deriving DecidableEq, Repr

/-- The position when a run update enters a segment (R22). -/
def ZoneRec.moveTo (r : ZoneRec) (i : Nat) : ZoneRec :=
  { r with seg := i, entered := true, elapsed := 0 }

/-- The position when a zone is left waiting at a segment (R22, R39, R41). -/
def ZoneRec.waitAt (r : ZoneRec) (i : Nat) : ZoneRec :=
  { r with seg := i, entered := false }

/-- A timed segment is entered (R27): a RAMP records its origin (R28), a STEP sets the setpoint (R32). -/
def ZoneRec.enter (r : ZoneRec) (i : Nat) (g : Seg) : ZoneRec :=
  { r.moveTo i with
    holdBack := false
    expired := false
    origin := if g.kind = some .ramp then r.setpoint else r.origin
    setpoint := if g.kind = some .step then g.target else r.setpoint }

/-- An AGAIN (R38): the next segment's index and the loop stack. With an empty stack, which no sealed program
gives, it falls through (log entry 15). -/
def runAgain (i : Nat) (stack : List Loop) : Nat × List Loop :=
  match stack.getLast? with
  | some l =>
    if 0 < l.remaining then
      (l.repeatAt + 1, stack.dropLast ++ [{ l with remaining := l.remaining - 1 }])
    else (i + 1, stack.dropLast)
  | none => (i + 1, stack)

/-- The chain of segments from index `i`; the first argument is how many more zero-time segments this update may
execute (R41). -/
def RunEnv.chain (e : RunEnv) : Nat → Nat → ZoneRec → List Report → ZoneRec × List Report × ChainStop
  | 0, i, r, reports =>
    match e.prog[i]? with
    | none => (r, reports, .lost)
    | some g =>
      match g.kind with
      | none => (r, reports, .lost)
      | some k =>
        if g.timed then (r.enter i g, reports ++ e.segmentReport i k, .entered)
        else (r.waitAt i, reports, .limit)
  | n + 1, i, r, reports =>
    match e.prog[i]? with
    | none => (r, reports, .lost)
    | some g =>
      match g.kind with
      | none => (r, reports, .lost)
      | some k =>
        if g.timed then (r.enter i g, reports ++ e.segmentReport i k, .entered)
        else
          match k with
          | .rep =>
            e.chain n (i + 1)
              { r.moveTo i with stack := r.stack ++ [{ repeatAt := i, remaining := g.number - 1 }] } reports
          | .again =>
            e.chain n (runAgain i r.stack).1 { r.moveTo i with stack := (runAgain i r.stack).2 } reports
          | .mark =>
            if g.option then ((r.moveTo i).waitAt (i + 1), reports ++ e.markReport g, .broke)
            else e.chain n (i + 1) (r.moveTo i) (reports ++ e.markReport g)
          | .fin => (r.moveTo i, reports, .finished g.option)
          | .step => e.chain n (i + 1) { r.moveTo i with setpoint := g.target } reports
          | .ramp | .soak | .drive => (r, reports, .lost)

/-! ## The run update (R23, R28, R40, R42, R55, R56, R67) -/

/-- The setpoint of a RAMP at its elapsed time (R28): the product is exact, the quotient truncates toward zero. -/
def rampSetpoint (origin target : Int) (elapsed duration : Nat) : Int :=
  origin + ((target - origin) * ((min elapsed duration : Nat) : Int)).tdiv (duration : Int)

/-- The setpoint stage and the end of an update whose current segment is entered: run mark set (R23, R56). -/
def RunEnv.conclude (e : RunEnv) (r : ZoneRec) (reports : List Report) : Update :=
  match e.prog[r.seg]? with
  | some g =>
    match g.kind with
    | some .ramp =>
      let sp := rampSetpoint r.origin g.target r.elapsed (g.duration?.getD 0)
      { zr := { r with setpoint := sp, runMark := true }, reports := reports, regime := .closed sp,
        released := false }
    | some .drive =>
      { zr := { r with runMark := true }, reports := reports, regime := .opened g.number, released := false }
    | _ =>
      { zr := { r with runMark := true }, reports := reports, regime := .closed r.setpoint, released := false }
  | none => { zr := { r with runMark := false }, reports := reports, regime := .zero, released := false }

/-- The END of a program (R40, R67). -/
def RunEnv.finish (e : RunEnv) (r : ZoneRec) (reports : List Report) (keep : Bool) : Update :=
  let left : ZoneRec := { r with active := none, steps := 0, runMark := false }
  if keep then
    e.keep { left with state := .keeping }
      (reports ++ e.stateReport r.state .keeping .fin r.causes) true
  else
    { zr := { left with state := .idle }
      reports := reports ++ e.stateReport r.state .idle .fin r.causes
      regime := .zero
      released := true }

/-- The progress stage, from the segment to enter (R23, R41, R42, R55). -/
def RunEnv.progress (e : RunEnv) (i : Nat) (r : ZoneRec) (reports : List Report) : Update :=
  match e.chain Config.chainLimit i r reports with
  | (r', reps, .entered) =>
    if (e.prog[r'.seg]?).any Seg.closedTimed && !e.usable then
      e.hold r' reps .sensor .sensor .running false
    else e.conclude r' reps
  | (r', reps, .limit) =>
    { zr := { r' with runMark := false }
      reports := reps
      regime := if e.live.feedback.isSome then .closed r'.setpoint else .zero
      released := false }
  | (r', reps, .broke) => e.hold r' reps .brk .brk .running false
  | (r', reps, .finished keep) => e.finish r' reps keep
  | (r', reps, .lost) =>
    { zr := { r' with runMark := false }, reports := reps, regime := .zero, released := false }

/-- The four stages of a run update whose feedback check has passed (R23). -/
def RunEnv.fourStages (e : RunEnv) (r : ZoneRec) : Update :=
  if r.entered then
    match e.prog[r.seg]? with
    | some g =>
      let charged := e.charge g r
      match e.endTest g charged with
      | .stays => e.conclude charged []
      | .ends r' reports => e.progress (r.seg + 1) r' reports
      | .settleHold r' reports => e.hold r' reports .settle .settle .running false
    | none => e.conclude r []
  else e.progress r.seg r []

/-- A STEPPING zone that is still STEPPING at the end of its run update has one step less (R57). -/
def ZoneRec.countStep (r : ZoneRec) : ZoneRec :=
  if r.state = .stepping then { r with steps := r.steps - 1 } else r

/-- A run update, opened by the feedback check (R54). -/
def RunEnv.runUpdate (e : RunEnv) (r : ZoneRec) : Update :=
  if (e.prog[r.seg]?).any Seg.closedTimed && !e.usable then
    e.hold r [] .sensor .sensor .running false
  else
    let u := e.fourStages r
    { u with zr := u.zr.countStep }

/-- The executor's stage of a boundary, by the zone's state (R53). -/
def RunEnv.executorStage (e : RunEnv) (r : ZoneRec) : Update :=
  match r.state with
  | .running => e.runUpdate r
  | .stepping =>
    if r.steps = 0 then e.hold r [] .step .stepDone .running false else e.runUpdate r
  | .held =>
    { zr := { r with runMark := false }, reports := [], regime := e.heldRegime r, released := false }
  | .keeping => e.keep r [] false
  | .idle | .tripped =>
    { zr := { r with runMark := false }, reports := [], regime := .zero, released := false }

end Sys2Proof.Machine
end

