-- ==== Sys2Proof/Machine/ControlLaw.lean ====
section
/-! DEFINITION. The control law of one frame (04_control_law.md, R76 to R84), the governor's grant (R150, R151)
and the dither and on-window of the modulator (R134 to R136), each as a function of what it reads. -/

namespace Sys2Proof.Machine

/-! ## Limits (R78) -/

/-- The clamp, the slew window around the last grant and the ceiling cap, in this order (R78). -/
def limitDemand (p : Params) (lastGrant : Nat) (raw : Int) : Int :=
  let clamped := limit p.floor p.ceiling raw
  let slewed :=
    match p.slew with
    | some s => limit ((lastGrant : Int) - s) ((lastGrant : Int) + s) clamped
    | none => clamped
  if (p.ceiling : Int) < slewed then p.ceiling else slewed

/-! ## Regimes -/

/-- What the control law computes for a frame: the demand, the accumulator and the regime served. -/
structure Demand where
  demand : Nat
  acc : Int
  kind : RegimeKind
  deriving DecidableEq, Repr

/-- The error, limited (R76). -/
def loopError (setpoint pv : Int) : Int := limit (-32767) 32767 (setpoint - pv)

/-- The proportional term (R76). -/
def proportional (kp : Nat) (err : Int) : Int := ((kp : Int) * err).tdiv 64

/-- The candidate integral (R77). -/
def candidate (ki : Nat) (acc err : Int) : Int := limit 0 Config.accMax (acc + (ki : Int) * err)

/-- Whether the candidate is kept out of the accumulator (R79). -/
def integralHeld (err raw demand : Int) (trimmed : Bool) : Bool :=
  decide (0 < err ∧ (demand < raw ∨ trimmed = true)) || decide (err < 0 ∧ raw < demand)

/-- The accumulator from which a closed-loop frame starts: preset after an open-loop frame (R82). -/
def presetAcc (c : Control) : Int :=
  if c.lastRegime = .openLoop then (c.lastGrant : Int) * 256 else c.acc

/-- A closed-loop frame on a usable sensor (R76 to R80, R82). -/
def closedDemand (p : Params) (c : Control) (setpoint pv : Int) : Demand :=
  let err := loopError setpoint pv
  let acc := presetAcc c
  let cand := candidate p.ki acc err
  let raw := proportional p.kp err + cand.tdiv 256
  let demand := limitDemand p c.lastGrant raw
  { demand := demand.toNat
    acc := if integralHeld err raw demand c.trimmedLast then acc else cand
    kind := .closedLoop }

/-- A fallback frame (R83). -/
def fallbackDemand (p : Params) (c : Control) : Demand :=
  { demand := min p.fallback p.ceiling, acc := c.acc, kind := .fallback }

/-- The demand of a frame by its regime (R80, R81, R83, R84). A closed-loop regime whose sensor is not usable is
computed as fallback (R80). -/
def demandOf (e : RunEnv) (c : Control) : Regime → Demand
  | .closed setpoint =>
    if e.usable then closedDemand e.live c setpoint e.pv else fallbackDemand e.live c
  | .opened duty =>
    { demand := (limitDemand e.live c.lastGrant duty).toNat, acc := c.acc, kind := .openLoop }
  | .fallback => fallbackDemand e.live c
  | .zero => { demand := 0, acc := c.acc, kind := .zero }

/-! ## The grant (R150, R151) -/

/-- The grant of a governed zone, from the free amount after its holding has returned (R151). -/
def governedGrant (p : Params) (freeAmount demand : Nat) : Nat :=
  min demand (p.reserve + freeAmount / p.weight)

/-- The grant of a zone and its new shared holding (R150, R151). -/
def grantOf (governor : Bool) (p : Params) (freeAmount demand : Nat) : Nat × Nat :=
  if governor = true ∧ 0 < p.weight then
    let g := governedGrant p freeAmount demand
    (g, p.weight * (g - p.reserve))
  else (demand, 0)

/-! ## The frame (R134 to R136) -/

/-- Loading a frame (R134). -/
def loadFrame (grant phase : Nat) : FrameRec :=
  { duty := grant, coarse := grant / 16, fine := grant % 16, phase := phase, pos := 0 }

/-- The spread order: the sixteen frame positions in the order in which they receive the extra ticks (R135). -/
def spreadOrder : List Nat := [0, 8, 4, 12, 2, 10, 6, 14, 1, 9, 5, 13, 3, 11, 7, 15]

/-- The tick count of the cycle in progress of a frame (R135). -/
def FrameRec.tickCount (f : FrameRec) : Nat :=
  if f.pos < 16 then f.coarse + (if (spreadOrder.take f.fine).contains f.pos then 1 else 0) else 0

/-- Tick `t` of the cycle in progress is active (R136). -/
def FrameRec.activeAt (f : FrameRec) (t : Nat) : Bool :=
  decide ((t + (256 - f.phase % 256)) % 256 < f.tickCount)

/-- A cut clears the pattern and keeps the phase and the position (R140). -/
def FrameRec.cut (f : FrameRec) : FrameRec := { f with duty := 0, coarse := 0, fine := 0 }

end Sys2Proof.Machine
end

