-- ==== Sys2Proof/Machine/Ops.lean ====
section
/-! DEFINITION. The named operations over the state that the commands share: one zone's data, the program store's
counts, the report queue and the transmitter, the cut, the trip, the governor's pool and one zone's frame
boundary. -/

namespace Sys2Proof.Machine

/-! ## One zone, one sensor, one slot -/

/-- The twelve zones in zone number order. -/
def allZones : List ZoneId := List.finRange 12

/-- The sixteen sensors in sensor number order. -/
def allSensors : List SensorId := List.finRange 16

def State.zone (s : State) (z : ZoneId) : Zone := s.zones[z.val]

def State.setZone (s : State) (z : ZoneId) (x : Zone) : State :=
  { s with zones := s.zones.set z.val x }

def State.sensor (s : State) (i : SensorId) : Sensor := s.sensors[i.val]

def State.setSensor (s : State) (i : SensorId) (x : Sensor) : State :=
  { s with sensors := s.sensors.set i.val x }

def State.slot (s : State) (k : SlotId) : Slot := s.store.slots[k.val]

def State.setSlot (s : State) (k : SlotId) (x : Slot) : State :=
  { s with store := { s.store with slots := s.store.slots.set k.val x } }

/-- Every zone replaced by what `f` makes of it. -/
def State.mapZones (s : State) (f : Zone → Zone) : State := { s with zones := s.zones.map f }

/-! ## Use counts (R17, R18) -/

/-- A zone starts on a program: the slot's use count rises by one (R17). -/
def State.useProgram (s : State) (k : SlotId) : State :=
  s.setSlot k { s.slot k with useCount := (s.slot k).useCount + 1 }

/-- A zone releases the program it held, if any: the use count falls by one (R18). -/
def State.releaseProgram (s : State) : Option SlotId → State
  | some k => s.setSlot k { s.slot k with useCount := (s.slot k).useCount - 1 }
  | none => s

/-! ## The report queue (R184 to R188) -/

/-- The places of the queue open to a report's class (R184). -/
def Report.places (r : Report) : Nat :=
  if r.priority then Config.reportPlaces else Config.ordinaryPlaces

/-- Admission at the end of the queue, with the next sequence number (R184, R186). -/
def Link.enqueue (l : Link) (r : Report) : Link :=
  { l with reports := l.reports ++ [⟨l.nextSeq, r, .fresh⟩], nextSeq := l.nextSeq + 1 }

/-- A lost report raises the lost count, which saturates (R185). -/
def Link.lose (l : Link) : Link := { l with lost := bump 65535 l.lost }

/-- A submitted report: admitted by its class, with a LOST report ahead of it where reports were lost before, or
lost itself (R184, R185). -/
def Link.submit (l : Link) (r : Report) : Link :=
  if l.lost = 0 then
    if l.reports.length < r.places then l.enqueue r else l.lose
  else if l.reports.length < Config.reportPlaces ∧ l.reports.length + 1 < r.places then
    ({ l.enqueue (.lost l.lost) with lost := 0 }).enqueue r
  else if r.priority = true ∧ l.reports.length < Config.reportPlaces then l.enqueue r
  else l.lose

/-- A report's first transmission has begun, or it is being sent again (R178, R188). -/
def Link.isSending (l : Link) (seq : Byte) : Bool :=
  match l.tx with
  | .report f _ => decide (f.seq = seq)
  | _ => false

/-- An unsent LINK_ERROR report (R178). -/
def Link.isUnsentError (l : Link) (q : Queued) : Bool :=
  match q.report with
  | .linkError _ => decide (q.st = .fresh) && !l.isSending q.seq
  | _ => false

/-- One count of a LINK_ERROR report, saturating at 255 (R178). -/
def LossCounts.add (n : LossCounts) : LossCause → LossCounts
  | .gap => { n with gap := bump 255 n.gap }
  | .length => { n with length := bump 255 n.length }
  | .crc => { n with crc := bump 255 n.crc }
  | .overrun => { n with overrun := bump 255 n.overrun }

/-- Raising the count of a queued LINK_ERROR report; its place and number stay (R178). -/
def Queued.addLoss (c : LossCause) (q : Queued) : Queued :=
  match q.report with
  | .linkError n => { q with report := .linkError (n.add c) }
  | _ => q

/-- A frame is lost: the unsent LINK_ERROR report counts it, or a new one is submitted (R178). -/
def Link.countLoss (l : Link) (c : LossCause) : Link :=
  match l.reports.findIdx? l.isUnsentError with
  | some i => { l with reports := l.reports.modify i (Queued.addLoss c) }
  | none => l.submit (.linkError (LossCounts.add ⟨0, 0, 0, 0⟩ c))

/-- The number of reports that are SENT or DUE (R188). -/
def Link.windowCount (l : Link) : Nat := l.reports.countP (fun q => decide (q.st ≠ .fresh))

/-- The report the queue offers next (R187 with acknowledgement off, R188 with it on). -/
def Link.eligible (l : Link) (ack : Bool) : Option Queued :=
  if ack then
    match l.reports.find? (fun q => decide (q.st = .due)) with
    | some q => some q
    | none =>
      if l.windowCount < Config.windowPlaces then l.reports.find? (fun q => decide (q.st = .fresh))
      else none
  else l.reports.head?

/-- The transmitter takes up a frame or becomes IDLE, and drives TXD with it (R173, R183). -/
def Link.transmit (l : Link) (tx : Transmitter) : Link := { l with tx := tx, txd := tx.levels }

/-- The arbiter's choice of the next frame (R183). -/
def Link.choose (l : Link) (ack : Bool) : Link :=
  match l.replies.head?, l.eligible ack with
  | some f, none => { l.transmit (.reply f) with runCount := 0 }
  | some f, some q =>
    if l.runCount < 3 then { l.transmit (.reply f) with runCount := l.runCount + 1 }
    else { l.transmit (.report q.frame false) with runCount := 0 }
  | none, some q => { l.transmit (.report q.frame false) with runCount := 0 }
  | none, none => l.transmit .idle

/-- An IDLE transmitter chooses a frame (R183). -/
def Link.wake (l : Link) (ack : Bool) : Link :=
  if l.tx = .idle then l.choose ack else l

/-- The last byte of a report has left TXD (R187, R188, R190): with acknowledgement off the report leaves the
queue; with it on the report becomes SENT, or DUE after a go-back during its transmission, and the resend timer
starts when the window count rises from 0 to 1. A report no longer in the queue stays out of it (R191). -/
def Link.reportSent (l : Link) (d : DeviceRec) (seq : Byte) (wentBack : Bool) : Link :=
  if d.ack then
    let l' := { l with
      reports := l.reports.map (fun q =>
        if q.seq = seq then { q with st := if wentBack then .due else .sent } else q) }
    if l.windowCount = 0 ∧ l'.windowCount = 1 then { l' with resend := some d.resend } else l'
  else { l with reports := l.reports.filter (fun q => decide (q.seq ≠ seq)) }

/-- A report submitted by any block. -/
def State.submit (s : State) (r : Report) : State := { s with link := s.link.submit r }

/-- Reports submitted in their order, judged one at a time (R184). -/
def State.submitAll (s : State) (rs : List Report) : State := rs.foldl State.submit s

/-- A frame is lost for a cause (R178). -/
def State.countLoss (s : State) (c : LossCause) : State := { s with link := s.link.countLoss c }

/-- An IDLE transmitter has chosen its next frame (R183). -/
def State.wake (s : State) : State := { s with link := s.link.wake s.device.live.ack }

/-- A command is carried out. An IDLE transmitter chooses its next frame (R183) before the command, so that the STARTED
of a reset, which leaves it IDLE (R196), is chosen before anything else happens; and after the command, whose frames are
all ready then (log entry 7). -/
def State.carryOut (s : State) (effect : State → State) : Host.Outcome State Fault Refusal := .next (effect s.wake).wake

/-! ## The silence timer (R192) -/

/-- The timer's value after a restart with a timeout: 0 leaves it stopped. -/
def silenceFrom (timeout : Nat) : Option Nat := if timeout = 0 then none else some timeout

/-- A restart of the silence timer with the live link timeout. -/
def State.restartSilence (s : State) : State :=
  { s with link := { s.link with silence := silenceFrom s.device.live.timeout } }

/-! ## Feedback sensors (R47, R54) -/

/-- The zone's live feedback sensor is present and usable. -/
def State.feedbackUsable (s : State) (z : ZoneId) : Bool :=
  (s.zone z).live.feedback.any (fun i => (s.sensor i).status.usable)

/-- The zone's live feedback sensor is present and not usable. -/
def State.feedbackBroken (s : State) (z : ZoneId) : Bool :=
  (s.zone z).live.feedback.any (fun i => !(s.sensor i).status.usable)

/-- The filtered value of the zone's live feedback sensor; 0 when the zone has none (R51, log entry 16). -/
def State.feedbackValue (s : State) (z : ZoneId) : Int :=
  match (s.zone z).live.feedback with
  | some i => (s.sensor i).filtered
  | none => 0

/-- A zone active now uses the sensor as live feedback or guard sensor (R91, row 3). -/
def Zone.uses (x : Zone) (i : SensorId) : Bool :=
  x.zr.state.isActive && (decide (x.live.feedback = some i) || x.live.guards.any (fun g => decide (g.sensor = i)))

/-! ## Cut and release (R140, R153) -/

/-- The output is cut at once: pattern cleared, pin at the inactive level for the live polarity (R140). -/
def Zone.cut (x : Zone) : Zone :=
  { x with frame := x.frame.cut, pin := level x.live.polarity false }

/-- The shared holding returns to the pool; the trimmed flag stays (R153). -/
def Zone.returnHolding (x : Zone) : Zone := { x with share := { x.share with holding := 0 } }

/-- The zone executor's part of an ABORT or a trip (R68, R69). -/
def ZoneRec.leave (r : ZoneRec) (new : ZoneState) : ZoneRec :=
  { r with state := new, causes := .none, steps := 0, skip := false, active := none }

/-- A ZONE_STATE report of a zone, if it is in the zone's live report selection (R48). -/
def State.reportState (s : State) (z : ZoneId) (old : ZoneState) (why : StateReason) : State :=
  if (s.zone z).live.reports.zoneState then
    s.submit (.zoneState z old (s.zone z).zr.state why (s.zone z).zr.causes)
  else s

/-! ## Trips (R116 to R118) -/

/-- The trip record at the entry into TRIPPED (R116). -/
def Zone.tripRecord (x : Zone) (cause : TripCause) (guard : Option TripGuard) : TripRec :=
  { cause := cause
    guard := guard
    place := x.zr.active.map (fun k => { program := k, segIndex := x.zr.seg })
    before := x.zr.state
    repeats := 0 }

/-- What entering TRIPPED does to the zone's own data (R117, steps 1 to 5). -/
def Zone.enterTripped (x : Zone) (t : TripRec) : Zone :=
  { ({ x with trip := some t, zr := x.zr.leave .tripped } : Zone).cut.returnHolding with exc := ⟨0, 0⟩ }

/-- A trip cause that reaches a TRIPPED zone raises its repeat count, saturating at 255 (R118). -/
def Zone.repeatTrip (x : Zone) : Zone :=
  { x with trip := x.trip.map (fun t => { t with repeats := bump 255 t.repeats }) }

/-- A trip cause reaches a zone: an active zone enters TRIPPED (R117), a TRIPPED zone counts it (R118), an IDLE
zone is left as it is. -/
def State.trip (s : State) (z : ZoneId) (cause : TripCause) (guard : Option TripGuard) : State :=
  let x := s.zone z
  match x.zr.state with
  | .idle => s
  | .tripped => s.setZone z x.repeatTrip
  | _ =>
    let t := x.tripRecord cause guard
    ((s.setZone z (x.enterTripped t)).releaseProgram x.zr.active).submit (.trip z t)

/-- The number of active zones: those that a cause reaching every zone makes TRIPPED (R121, R125). -/
def State.activeCount (s : State) : Nat := allZones.countP (fun z => (s.zone z).zr.state.isActive)

/-- A trip cause reaches the twelve zones in zone number order (R121, R125). -/
def State.tripAll (s : State) (cause : TripCause) : State :=
  allZones.foldl (fun s z => s.trip z cause none) s

/-! ## The governor's pool (R149) -/

/-- Weight times reserve. -/
def Params.wr (p : Params) : Nat := p.weight * p.reserve

/-- The counted reserve of a zone: while a commit is pending, the larger of the live and the staged one. -/
def Zone.counted (x : Zone) : Nat := if x.pending then max x.live.wr x.staged.wr else x.live.wr

/-- The sum of a number over the twelve zones. -/
def sumZones (f : ZoneId → Nat) : Nat := (allZones.map f).sum

/-- The sum of the counted reserves. -/
def State.countedReserves (s : State) : Nat := sumZones (fun z => (s.zone z).counted)

/-- The sum of the shared holdings. -/
def State.holdings (s : State) : Nat := sumZones (fun z => (s.zone z).share.holding)

/-- The free amount: the capacity less the holdings, never below 0 (R149, log entry 14). -/
def State.freeAmount (s : State) : Nat :=
  s.device.live.budget * 4096 - s.countedReserves - s.holdings

/-! ## A zone's frame boundary (R53, R75, R134, R150, R155, R166) -/

/-- The zone's data when its pending commit is applied (R111, R166). -/
def Zone.applyCommit (x : Zone) : Zone :=
  { x with
    live := x.staged
    pending := false
    restricted := false
    exc := if x.staged.guards = x.live.guards then x.exc else ⟨0, 0⟩ }

/-- First stage: the staging unit (R166). -/
def State.stagingStage (s : State) (z : ZoneId) : State :=
  if (s.zone z).pending then
    (s.setZone z (s.zone z).applyCommit).submit (.committed (some z) .applied)
  else s

/-- What the executor's stage of a zone reads (R45, R54). -/
def State.env (s : State) (z : ZoneId) : RunEnv :=
  { zone := z
    prog := match (s.zone z).zr.active with
      | some k => (s.slot k).segs
      | none => []
    live := (s.zone z).live
    usable := s.feedbackUsable z
    pv := s.feedbackValue z
    worth := s.device.live.cycle.worth }

/-- Second stage: the zone executor (R53). -/
def State.executorStage (s : State) (z : ZoneId) (u : Update) : State :=
  let held := (s.zone z).zr.active
  let s := s.setZone z { s.zone z with zr := u.zr }
  let s := if u.released then s.releaseProgram held else s
  s.submitAll u.reports

/-- Fourth stage: the governor returns the holding, grants, draws and reports a changed trim (R150, R151, R155). -/
def State.governorStage (s : State) (z : ZoneId) (demand : Nat) : Nat × State :=
  let s := s.setZone z (s.zone z).returnHolding
  let x := s.zone z
  let g := grantOf s.device.live.governor x.live s.freeAmount demand
  let trimmed := decide (g.1 < demand)
  let s' := s.setZone z { x with share := { holding := g.2, trimmed := trimmed } }
  (g.1, if trimmed = x.share.trimmed then s' else s'.submit (.budget z trimmed))

/-- Fifth stage, with what the control law unit records after the grant (R75, R134). -/
def Zone.load (x : Zone) (d : Demand) (grant : Nat) : Zone :=
  { x with
    ctl := { acc := d.acc, lastDemand := d.demand, lastGrant := grant,
             trimmedLast := decide (grant < d.demand), lastRegime := d.kind }
    frame := loadFrame grant x.live.phase }

/-- The frame boundary of a zone: the five stages in turn. -/
def State.boundary (s : State) (z : ZoneId) : State :=
  let s := s.stagingStage z
  let e := s.env z
  let u := e.executorStage (s.zone z).zr
  let s := s.executorStage z u
  let d := demandOf e (s.zone z).ctl u.regime
  let g := s.governorStage z d.demand
  g.2.setZone z ((g.2.zone z).load d g.1)

/-- The numbers below `n` in the order a command carries, or in number order where the command does not carry
each of them once (log entry 8). -/
def orderOf (n : Nat) (order : List Nat) : List (Fin n) :=
  if isOrder n order then order.filterMap (fun k => if h : k < n then some ⟨k, h⟩ else none)
  else List.finRange n

/-- Every pin driven at the level of the tick in progress (R137, R138). -/
def Zone.drive (x : Zone) (tick : Nat) : Zone :=
  { x with pin := level x.live.polarity (x.frame.activeAt tick) }

end Sys2Proof.Machine
end

