-- ==== Sys2Proof/Machine/Operands.lean ====
section
/-! DEFINITION. How a request reaches its block: the executor's taking of a frame (R179 to R182), and the operands
that the payloads of requests carry (R198, R204, R207, R208, R211, R212). -/

namespace Sys2Proof.Machine

/-! ## Taking a frame -/

/-- The executor takes this frame: it is the oldest of the receive queue, the reply queue holds fewer than 4
replies, and no RESTART awaits its soft reset (R179). -/
def State.canTake (s : State) (f : WireFrame) : Bool :=
  decide (s.link.rxQueue.head? = some f) && decide (s.link.replies.length < Config.linkPlaces)
    && !s.link.awaitsReset

/-- Taking the frame removes it from the receive queue (R179). -/
def State.takeFrame (s : State) : State :=
  { s with link := { s.link with rxQueue := s.link.rxQueue.tail } }

/-- The frame matches the retry memory by its SEQ and both CRC bytes (R180). -/
def Link.isRetry (l : Link) (f : WireFrame) : Bool :=
  match l.retry with
  | some m => decide (m.seq = f.seq ∧ m.crc = f.crc)
  | none => false

/-- The reply to a frame: its SEQ, bits 5 to 0 of its KIND (R197). -/
def replyFrame (f : WireFrame) (payload : List Byte) : WireFrame :=
  { seq := f.seq, kind := f.kind &&& 0x3F#8, payload := payload }

/-- The repeat of a reply: bit 6 of KIND set (R197). -/
def repeatFrame (r : WireFrame) : WireFrame := { r with kind := r.kind ||| 0x40#8 }

/-- The reply of an executed frame is queued and remembered in the retry memory (R180). -/
def State.answer (s : State) (f : WireFrame) (payload : List Byte) : State :=
  { s with link := { s.link with
      replies := s.link.replies ++ [replyFrame f payload]
      retry := some { seq := f.seq, crc := f.crc, reply := replyFrame f payload } } }

/-- The remembered reply is queued again as a repeat; the retry memory is unchanged (R180). -/
def State.repeatReply (s : State) : State :=
  match s.link.retry with
  | some m => { s with link := { s.link with replies := s.link.replies ++ [repeatFrame m.reply] } }
  | none => s

/-- The outcome of a request at its block: the reply's payload and the state. -/
abbrev Answer := List Byte × State

/-- A request refused with a status: the state is as it was. -/
def refuse (st : Status) (s : State) : Answer := (st.bytes, s)

/-- The executor takes a frame of a known kind: a retry is answered with a repeat, a wrong length with BAD_LENGTH,
and otherwise the owning block carries the request out whole (R179 to R181). A frame that it does not take leaves
everything as it is (log entry 3). -/
def State.serve (s : State) (f : WireFrame) (lengthOk : Bool) (block : State → Answer) : State :=
  if s.canTake f then
    if s.link.isRetry f then s.takeFrame.repeatReply
    else if lengthOk then (block s.takeFrame).2.answer f (block s.takeFrame).1
    else s.takeFrame.answer f Status.badLength.bytes
  else s

/-- A request with its one accepted payload length. -/
def hasLength (n : Nat) (p : List Byte) : Bool := decide (p.length = n)

/-! ## Operands -/

/-- The zone that the first payload byte names, 0 to 11 (R49). -/
def zoneOf (p : List Byte) : Option ZoneId := if h : nat8 p 0 < 12 then some ⟨nat8 p 0, h⟩ else none

/-- A slot or sensor number, 0 to 15, at a payload position. -/
def nibbleAt (p : List Byte) (i : Nat) : Option (Fin 16) := if h : nat8 p i < 16 then some ⟨nat8 p i, h⟩ else none

/-- A request that names a zone: a zone number above 11 is refused first (R49). -/
def onZone (p : List Byte) (s : State) (block : ZoneId → Answer) : Answer :=
  match zoneOf p with
  | some z => block z
  | none => refuse (.badValue .zone) s

/-- A request that names a slot: a slot number above 15 is refused first (R5). -/
def onSlot (p : List Byte) (s : State) (block : SlotId → Answer) : Answer :=
  match nibbleAt p 0 with
  | some k => block k
  | none => refuse (.badValue .slot) s

/-- A request that names a sensor: a sensor number above 15 is refused first (R106, R107). -/
def onSensor (p : List Byte) (s : State) (block : SensorId → Answer) : Answer :=
  match nibbleAt p 0 with
  | some i => block i
  | none => refuse (.badValue .sensor) s

/-- The first check that fails, in order. -/
def firstBad : List (Bool × Field) → Option Field
  | [] => none
  | (bad, f) :: rest => if bad then some f else firstBad rest

/-! ### The device record form (R204) -/

/-- A cycle length code: the length in ms. -/
def cycleOf (n : Nat) : Option CycleLength :=
  match n with
  | 2 => some .ms2
  | 8 => some .ms8
  | 32 => some .ms32
  | 128 => some .ms128
  | _ => none

/-- The first carried field of DEVICE_SET outside its range (R169). -/
def deviceFault (p : List Byte) : Option Field :=
  firstBad [
    (bitAt p 0 0 && (cycleOf (nat8 p 1)).isNone, .cycle),
    (bitAt p 0 1 && decide (1 < nat8 p 2), .governor),
    (bitAt p 0 3 && decide (240 < nat8 p 5), .timeout),
    (bitAt p 0 4 && decide (1 < nat8 p 6), .ack),
    (bitAt p 0 5 && decide (nat8 p 7 < 1 ∨ 20 < nat8 p 7), .resend)]

/-- The device record with the carried fields written into it (R169). -/
def deviceWith (p : List Byte) (d : DeviceRec) : DeviceRec :=
  { cycle := if bitAt p 0 0 then (cycleOf (nat8 p 1)).getD d.cycle else d.cycle
    governor := if bitAt p 0 1 then decide (nat8 p 2 = 1) else d.governor
    budget := if bitAt p 0 2 then nat16 p 3 else d.budget
    timeout := if bitAt p 0 3 then nat8 p 5 else d.timeout
    ack := if bitAt p 0 4 then decide (nat8 p 6 = 1) else d.ack
    resend := if bitAt p 0 5 then nat8 p 7 else d.resend }

/-- Bytes 1 to 7 of the device record form. -/
def DeviceRec.bytes (d : DeviceRec) : List Byte :=
  [d.cycle.code, flagByte d.governor] ++ be16 d.budget
  ++ [byte d.timeout, flagByte d.ack, byte d.resend]

/-! ### The zone parameter form (R211) -/

/-- Bit `k` of the carried mask, bytes 1 and 2. -/
def carried (p : List Byte) (k : Nat) : Bool := (nat16 p 1).testBit k

/-- The guard entry at a payload position; its sensor byte is 0 to 15 once checked. -/
def guardAt (p : List Byte) (i : Nat) : GuardEntry :=
  { sensor := Fin.ofNat 16 (nat8 p i)
    high := int16 p (i + 2)
    low := if bitAt p (i + 1) 0 then some (int16 p (i + 4)) else none
    qualify := nat8 p (i + 6) }

/-- The guard list that ZONE_SET_PARAM carries; entries beyond the count are not read. -/
def guardsOf (p : List Byte) : List GuardEntry :=
  match nat8 p 24 with
  | 0 => []
  | 1 => [guardAt p 25]
  | _ => [guardAt p 25, guardAt p 32]

/-- A guard entry with a sensor above 15 or a qualify count outside 1 to 15 (R162). -/
def guardBad (p : List Byte) (i : Nat) : Bool :=
  decide (15 < nat8 p i) || decide (nat8 p (i + 6) < 1 ∨ 15 < nat8 p (i + 6))

/-- The carried guard list is refused as GUARD (R162). -/
def guardsBad (p : List Byte) : Bool :=
  decide (2 < nat8 p 24) || (decide (1 ≤ nat8 p 24) && guardBad p 25)
    || (decide (2 ≤ nat8 p 24) && guardBad p 32)

/-- The first carried field of ZONE_SET_PARAM outside its range, in the order of the table (R162). Phase offset
and weight have no value outside their range on the wire (R201). -/
def paramFault (p : List Byte) : Option Field :=
  firstBad [
    (carried p 0 && !bitAt p 3 0 && decide (15 < nat8 p 4), .feedback),
    (carried p 1 && decide (4095 < nat16 p 5), .kp),
    (carried p 2 && decide (4095 < nat16 p 7), .ki),
    (carried p 3 && decide (4096 < nat16 p 9), .floor),
    (carried p 4 && decide (4096 < nat16 p 11), .ceiling),
    (carried p 5 && !bitAt p 3 1 && decide (nat16 p 13 < 1 ∨ 4096 < nat16 p 13), .slew),
    (carried p 6 && decide (4096 < nat16 p 15), .fallback),
    (carried p 7 && decide (1 < nat8 p 17), .holdAction),
    (carried p 9 && decide (15 < nat8 p 19), .frameOffset),
    (carried p 11 && decide (4096 < nat16 p 21), .reserve),
    (carried p 12 && decide (1 < nat8 p 23), .polarity),
    (carried p 13 && guardsBad p, .guard),
    (carried p 14 && decide (15 < nat8 p 39), .reports)]

/-- The report selection of a byte (R202). -/
def selectionOf (b : Byte) : Selection := ⟨b.getLsbD 0, b.getLsbD 1, b.getLsbD 2, b.getLsbD 3⟩

/-- The parameter record with the carried fields written into it (R162). -/
def paramsWith (p : List Byte) (old : Params) : Params :=
  { feedback := if carried p 0 then (if bitAt p 3 0 then none else nibbleAt p 4) else old.feedback
    kp := if carried p 1 then nat16 p 5 else old.kp
    ki := if carried p 2 then nat16 p 7 else old.ki
    floor := if carried p 3 then nat16 p 9 else old.floor
    ceiling := if carried p 4 then nat16 p 11 else old.ceiling
    slew := if carried p 5 then (if bitAt p 3 1 then none else some (nat16 p 13)) else old.slew
    fallback := if carried p 6 then nat16 p 15 else old.fallback
    hold := if carried p 7 then (if nat8 p 17 = 0 then .fallback else .regulate) else old.hold
    phase := if carried p 8 then nat8 p 18 else old.phase
    frameOffset := if carried p 9 then nat8 p 19 else old.frameOffset
    weight := if carried p 10 then nat8 p 20 else old.weight
    reserve := if carried p 11 then nat16 p 21 else old.reserve
    polarity := if carried p 12 then (if nat8 p 23 = 0 then .activeHigh else .activeLow) else old.polarity
    guards := if carried p 13 then guardsOf p else old.guards
    reports := if carried p 14 then selectionOf (at8 p 39) else old.reports }

/-- The seven bytes of a guard entry; a missing entry or low limit is sent as 0 (R211). R211 names bit 0 of byte 1; bits
1 to 7 are sent as 0 (DESIGN CHOICE, log entry 26). -/
def guardBytes : Option GuardEntry → List Byte
  | some g => [byte g.sensor.val, flagByte g.low.isSome] ++ beS16 g.high ++ beS16 (g.low.getD 0) ++ [byte g.qualify]
  | none => [0, 0, 0, 0, 0, 0, 0]

/-- Bytes 3 to 39 of the zone parameter form, every field filled (R211). R211 names bits 0 and 1 of the absent mask; bits
2 to 7 are sent as 0 (DESIGN CHOICE, log entry 26). -/
def Params.bytes (p : Params) : List Byte :=
  [byte (flagBit p.feedback.isNone 1 + flagBit p.slew.isNone 2),
    byte ((p.feedback.map (·.val)).getD 0)]
  ++ be16 p.kp ++ be16 p.ki ++ be16 p.floor ++ be16 p.ceiling ++ be16 (p.slew.getD 0) ++ be16 p.fallback
  ++ [p.hold.code, byte p.phase, byte p.frameOffset, byte p.weight]
  ++ be16 p.reserve
  ++ [p.polarity.code, byte p.guards.length]
  ++ guardBytes p.guards[0]? ++ guardBytes p.guards[1]?
  ++ [p.reports.code]

/-! ### The sensor parameter form (R212) -/

/-- The first carried field of SENSOR_SET outside its range, in the order of R106. Gain and offset have no value
outside their range on the wire (R201). -/
def sensorFault (p : List Byte) : Option Field :=
  firstBad [
    (bitAt p 1 2 && decide (4 < nat8 p 7), .shift),
    (bitAt p 1 3 && !bitAt p 2 0 && decide (4095 < nat16 p 8), .openAt),
    (bitAt p 1 4 && !bitAt p 2 1 && decide (4095 < nat16 p 10), .shortAt),
    (bitAt p 1 5 && decide (nat8 p 12 < 1 ∨ 15 < nat8 p 12), .fault)]

/-- The sensor record with the carried parameters written into it and its filter unseeded (R106). -/
def sensorWith (p : List Byte) (n : Sensor) : Sensor :=
  { n with
    gain := if bitAt p 1 0 then int16 p 3 else n.gain
    offset := if bitAt p 1 1 then int16 p 5 else n.offset
    shift := if bitAt p 1 2 then nat8 p 7 else n.shift
    openAt := if bitAt p 1 3 then (if bitAt p 2 0 then none else some (nat16 p 8)) else n.openAt
    shortAt := if bitAt p 1 4 then (if bitAt p 2 1 then none else some (nat16 p 10)) else n.shortAt
    faultCount := if bitAt p 1 5 then nat8 p 12 else n.faultCount
    seeded := false }

/-! ### The scan list form (R212) -/

/-- SCAN_SET's length is one more than its entry count; no payload is BAD_LENGTH (R198). -/
def scanLengthOk (p : List Byte) : Bool := decide (p ≠ [] ∧ p.length = 1 + nat8 p 0)

/-- The sensor numbers that SCAN_SET carries, or none if one is above 15 (R91). -/
def scanEntries (p : List Byte) : Option (List SensorId) :=
  p.tail.mapM (fun b => if h : b.toNat < 16 then some (⟨b.toNat, h⟩ : SensorId) else none)

/-- PROG_APPEND's length is 1 + 8 n, for n from 1 to 8 (R198). -/
def appendLengthOk (p : List Byte) : Bool :=
  decide (p.length % 8 = 1 ∧ 9 ≤ p.length ∧ p.length ≤ 65)

/-- The segments that PROG_APPEND carries (R207). -/
def appendSegs (p : List Byte) : List Seg := segsFrom p 1 ((p.length - 1) / 8)

end Sys2Proof.Machine
end

