-- ==== Sys2Proof/Machine/Resets.lean ====
section
/-! DEFINITION. The two resets (R20, R21, R44, R72, R73, R87, R108, R109, R128, R129, R146, R147, R158, R159, R172,
R194 to R196) and the rows SOFT_RESET and HARD_RESET. -/

namespace Sys2Proof.Machine

/-- A zone record after a soft reset: a TRIPPED zone keeps its fields, every other takes its hard-reset values
(R44, R73). -/
def ZoneRec.softReset (r : ZoneRec) : ZoneRec :=
  if r.state = .tripped then r else .reset

/-- All of one zone after a soft reset (R73, R87, R129, R147, R159, R172). -/
def Zone.softReset (x : Zone) : Zone :=
  { x with
    zr := x.zr.softReset
    ctl := .reset
    exc := ⟨0, 0⟩
    share := ⟨0, false⟩
    frame := x.frame.cut
    pin := level x.live.polarity false
    staged := x.live
    pending := false
    restricted := false }

/-- A sensor after a soft reset: a listed sensor is WAITING and unseeded, an unlisted one UNSCANNED; counts are
cleared and the rest is kept (R109). -/
def Sensor.softReset (n : Sensor) (listed : Bool) : Sensor :=
  { n with
    status := if listed then .waiting else .unscanned
    seeded := if listed then false else n.seeded
    invalids := 0
    valids := 0 }

/-- The host link after a soft reset, STARTED already admitted (R194, R196): the link rate is kept. -/
def Link.softReset (l : Link) (timeout : Nat) : Link :=
  { Link.reset l.rate .soft with silence := silenceFrom timeout }

/-- Every block takes its soft-reset state. -/
def State.softResetAll (s : State) : State :=
  { s with
    store := { s.store with slots := s.store.slots.map (fun k => { k with useCount := 0 }) }
    zones := s.zones.map Zone.softReset
    sensors := Vector.ofFn (fun i : SensorId => (s.sensor i).softReset (s.scan.live.contains i))
    scan := { s.scan with pending := none, converting := if s.scan.live = [] then none else some 0 }
    stop := { asserted := false, lowCount := 0, highCount := 0 }
    device := { s.device with staged := s.device.live, pending := false }
    link := s.link.softReset s.device.live.timeout }

/-- The reply in transmission is the one that a RESTART awaits: replies leave in the order of their requests, and
no frame is taken after the RESTART, so it is the last reply left (R182, R195). -/
def State.sendsRestartReply (s : State) : Bool :=
  match s.link.tx with
  | .reply _ => s.link.awaitsReset && decide (s.link.replies.length ≤ 1)
  | _ => false

/-- SOFT_RESET (R195): the last byte of the RESTART reply leaves TXD. At any other moment there is no such byte, and the
command changes nothing (log entry 12). The reset leaves the transmitter IDLE and STARTED queued (R196); what comes next
finds STARTED chosen (State.wake). -/
def execSoftReset (s : State) : Host.Outcome State Fault Refusal :=
  .next (if s.wake.sendsRestartReply then s.wake.softResetAll else s.wake)

/-- HARD_RESET (R72): power-on or the RESET pin, with the straps sampled at its end (R173). The waiting commands are not
the part's and stay. The reset leaves the transmitter IDLE and STARTED queued (R196); what comes next finds STARTED
chosen (State.wake). -/
def execHardReset (cause : ResetCause) (baud1 baud0 : Bool) (s : State) : Host.Outcome State Fault Refusal :=
  .next { State.afterHardReset (rateOf baud1 baud0) (startCause cause) with pending := s.pending }

end Sys2Proof.Machine
end

