-- ==== Sys2Proof/Machine/DeviceRequests.lean ====
section
/-! DEFINITION. The device requests: PING, IDENTIFY, RESTART, ALL_STOP, ACK_REPORTS, DEVICE_SET, DEVICE_GET and
DEVICE_COMMIT (R121, R157, R169, R170, R189, R195, R204 to R206), and the two rows of the executor that are no
request kind: RETRY (R180) and UNKNOWN_KIND (R181). -/

namespace Sys2Proof.Machine

/-- PING echoes its payload (R205). -/
def blockPing (p : List Byte) (s : State) : Answer := (Status.ok.bytes ++ p, s)

def execPing (seq : Byte) (payload : List Byte) (s : State) : Host.Outcome State Fault Refusal :=
  s.carryOut (·.serve ⟨seq, 0x01, payload⟩ (decide (payload.length ≤ 119)) (blockPing payload))

/-- IDENTIFY (R206). -/
def blockIdentify (s : State) : Answer :=
  (Status.ok.bytes ++ be16 Config.vendor ++ be16 Config.part
    ++ [byte Config.revision, byte 12, byte 16, byte Config.maxScan] ++ be16 Config.poolSize ++ [byte 16]
    ++ be16 s.store.free, s)

def execIdentify (seq : Byte) (payload : List Byte) (s : State) : Host.Outcome State Fault Refusal :=
  s.carryOut (·.serve ⟨seq, 0x02, payload⟩ (hasLength 0 payload) blockIdentify)

/-- RESTART: reply OK, and from then on the executor takes no further frame (R195). -/
def blockRestart (s : State) : Answer :=
  (Status.ok.bytes, { s with link := { s.link with awaitsReset := true } })

def execRestart (seq : Byte) (payload : List Byte) (s : State) : Host.Outcome State Fault Refusal :=
  s.carryOut (·.serve ⟨seq, 0x03, payload⟩ (hasLength 0 payload) blockRestart)

/-- ALL_STOP (R121): the number of zones that entered TRIPPED is the number that were active. -/
def blockAllStop (s : State) : Answer := (Status.ok.bytes ++ [byte s.activeCount], s.tripAll .hostAll)

def execAllStop (seq : Byte) (payload : List Byte) (s : State) : Host.Outcome State Fault Refusal :=
  s.carryOut (·.serve ⟨seq, 0x04, payload⟩ (hasLength 0 payload) blockAllStop)

/-- The queue less the report with number `n` that is SENT or DUE and every older one; with no such report, the
queue as it is (R189). -/
def dropAcked (n : Byte) (q : List Queued) : List Queued :=
  match q.findIdx? (fun r => decide (r.seq = n ∧ r.st ≠ .fresh)) with
  | some i => q.drop (i + 1)
  | none => q

/-- The removal of ACK_REPORTS with the resend timer (R189, R190). -/
def Link.ack (l : Link) (d : DeviceRec) (n : Byte) : Link :=
  if d.ack = true ∧ (l.reports.any (fun r => decide (r.seq = n ∧ r.st ≠ .fresh))) = true then
    let l' := { l with reports := dropAcked n l.reports }
    { l' with resend := if 0 < l'.windowCount then some d.resend else none }
  else l

/-- The oldest report that is SENT or DUE. -/
def Link.oldestUnacked (l : Link) : Option Queued := l.reports.find? (fun q => decide (q.st ≠ .fresh))

/-- ACK_REPORTS (R189). -/
def blockAckReports (p : List Byte) (s : State) : Answer :=
  let l := s.link.ack s.device.live (at8 p 0)
  (Status.ok.bytes
    ++ [flagByte l.oldestUnacked.isSome, (l.oldestUnacked.map (·.seq)).getD 0, byte l.windowCount],
    { s with link := l })

def execAckReports (seq : Byte) (payload : List Byte) (s : State) : Host.Outcome State Fault Refusal :=
  s.carryOut (·.serve ⟨seq, 0x05, payload⟩ (hasLength 1 payload) (blockAckReports payload))

/-- DEVICE_SET (R169). -/
def blockDeviceSet (p : List Byte) (s : State) : Answer :=
  if s.device.pending then refuse .commitPending s
  else
    match deviceFault p with
    | some f => refuse (.badValue f) s
    | none => (Status.ok.bytes, { s with device := { s.device with staged := deviceWith p s.device.staged } })

def execDeviceSet (seq : Byte) (payload : List Byte) (s : State) : Host.Outcome State Fault Refusal :=
  s.carryOut (·.serve ⟨seq, 0x06, payload⟩ (hasLength 8 payload) (blockDeviceSet payload))

/-- DEVICE_GET (R169). -/
def blockDeviceGet (p : List Byte) (s : State) : Answer :=
  if 1 < nat8 p 0 then refuse (.badValue .copy) s
  else
    (Status.ok.bytes ++ [at8 p 0, flagByte s.device.pending]
      ++ (if nat8 p 0 = 0 then s.device.live else s.device.staged).bytes, s)

def execDeviceGet (seq : Byte) (payload : List Byte) (s : State) : Host.Outcome State Fault Refusal :=
  s.carryOut (·.serve ⟨seq, 0x07, payload⟩ (hasLength 1 payload) (blockDeviceGet payload))

/-- Some zone is not IDLE (R157, R170). -/
def State.someNotIdle (s : State) : Bool := allZones.any (fun z => decide ((s.zone z).zr.state ≠ .idle))

/-- The refusal of DEVICE_COMMIT that applies first, if any (R157, R170). -/
def State.deviceCommitFault (s : State) : Option Status :=
  let live := s.device.live
  let staged := s.device.staged
  let governed := decide (staged.governor ≠ live.governor ∨ staged.budget ≠ live.budget)
  if s.device.pending then some .commitPending
  else if staged.cycle ≠ live.cycle ∧ s.someNotIdle = true then some .notIdle
  else if governed = true ∧ s.someNotIdle = true then some .notIdle
  else if governed = true ∧ staged.budget * 4096 < s.countedReserves then some (.badValue .budget)
  else none

/-- DEVICE_COMMIT (R170). -/
def blockDeviceCommit (s : State) : Answer :=
  match s.deviceCommitFault with
  | some st => refuse st s
  | none => (Status.pending.bytes, { s with device := { s.device with pending := true } })

def execDeviceCommit (seq : Byte) (payload : List Byte) (s : State) : Host.Outcome State Fault Refusal :=
  s.carryOut (·.serve ⟨seq, 0x08, payload⟩ (hasLength 0 payload) blockDeviceCommit)

/-- RETRY (R180): the frame taken matches the retry memory, is not executed, and the remembered reply is queued
again as a repeat. A frame that does not match is taken by its own row's command (log entry 4). -/
def execRetry (seq kind : Byte) (payload : List Byte) (s : State) : Host.Outcome State Fault Refusal :=
  s.carryOut fun s =>
    if s.link.isRetry ⟨seq, kind, payload⟩ then s.serve ⟨seq, kind, payload⟩ false (fun t => ([], t)) else s

/-- UNKNOWN_KIND (R181): a KIND that is none of the 31 request kinds is answered with UNKNOWN_KIND. A frame of a
request kind is taken by its own row's command (log entry 4). -/
def execUnknownKind (seq kind : Byte) (payload : List Byte) (s : State) : Host.Outcome State Fault Refusal :=
  s.carryOut fun s =>
    if isRequestKind kind then s
    else s.serve ⟨seq, kind, payload⟩ true (fun t => (Status.unknownKind.bytes, t))

end Sys2Proof.Machine
end

