-- ==== Sys2Proof/Machine/ZoneRequests.lean ====
section
/-! DEFINITION. The zone requests (R49 to R51, R61, R63, R65, R66, R68, R71, R120, R122, R123, R208, R209). -/

namespace Sys2Proof.Machine

/-! ## Starting (R50, R51) -/

/-- The program contains a RAMP, SOAK or STEP, with or without band (R50, row 5). -/
def hasClosedLoop (segs : List Seg) : Bool :=
  segs.any (fun g => decide (g.kind = some .ramp ∨ g.kind = some .soak ∨ g.kind = some .step))

/-- The sensor of the first live guard entry that is UNSCANNED, WAITING or FAILED (R50, row 7; R200). -/
def State.guardNotReady (s : State) (z : ZoneId) : Option SensorId :=
  ((s.zone z).live.guards.find? (fun g => !(s.sensor g.sensor).status.usable)).map (·.sensor)

/-- The refusal of a START that applies first, if any (R50). -/
def State.startFault (s : State) (z : ZoneId) (k : SlotId) : Option Status :=
  let x := s.zone z
  if x.zr.state ≠ .idle then some (.badState x.zr.state.code)
  else if s.stop.asserted then some .stopped
  else if (s.slot k).state ≠ .sealed then some (.badState (s.slot k).state.code)
  else if x.restricted then some .commitPending
  else if hasClosedLoop (s.slot k).segs = true ∧ x.live.feedback = none then some (.notReady none)
  else if s.feedbackBroken z then some (.notReady x.live.feedback)
  else (s.guardNotReady z).map (fun i => .notReady (some i))

/-- The zone record after an accepted START (R51); the ramp origin and the resume target stay. -/
def ZoneRec.start (r : ZoneRec) (k : SlotId) (setpoint : Int) : ZoneRec :=
  { r with
    state := .running
    causes := .none
    active := some k
    seg := 0
    entered := false
    elapsed := 0
    stack := []
    setpoint := setpoint
    runMark := false
    steps := 0
    skip := false
    holdBack := false
    expired := false }

/-- An accepted START (R51): the zone record, the excursion counters, the accumulator (R85), the use count and the
report. -/
def State.startZone (s : State) (z : ZoneId) (k : SlotId) (setpoint : Int) : State :=
  let x := s.zone z
  let s' := s.setZone z
    { x with zr := x.zr.start k setpoint, exc := ⟨0, 0⟩, ctl := { x.ctl with acc := 0 } }
  (s'.useProgram k).reportState z .idle .start

/-- ZONE_START: zone, slot, flags, initial setpoint (R50, R51, R208). -/
def blockZoneStart (p : List Byte) (s : State) : Answer :=
  onZone p s fun z =>
    match nibbleAt p 1 with
    | none => refuse (.badValue .program) s
    | some k =>
      match s.startFault z k with
      | some st => refuse st s
      | none =>
        (Status.ok.bytes, s.startZone z k (if bitAt p 2 0 then int16 p 3 else s.feedbackValue z))

def execZoneStart (seq : Byte) (payload : List Byte) (s : State) : Host.Outcome State Fault Refusal :=
  s.carryOut (·.serve ⟨seq, 0x0F, payload⟩ (hasLength 5 payload) (blockZoneStart payload))

/-! ## Aborting (R68) -/

/-- The zone's own data after an ABORT of an active zone (R68, R140, R153). -/
def Zone.abort (x : Zone) : Zone := ({ x with zr := x.zr.leave .idle } : Zone).cut.returnHolding

/-- ZONE_ABORT (R68). -/
def blockZoneAbort (p : List Byte) (s : State) : Answer :=
  onZone p s fun z =>
    let x := s.zone z
    match x.zr.state with
    | .idle => (Status.ok.bytes, s)
    | .tripped => refuse (.badState x.zr.state.code) s
    | old =>
      (Status.ok.bytes,
        ((s.setZone z x.abort).releaseProgram x.zr.active).reportState z old .abort)

def execZoneAbort (seq : Byte) (payload : List Byte) (s : State) : Host.Outcome State Fault Refusal :=
  s.carryOut (·.serve ⟨seq, 0x10, payload⟩ (hasLength 1 payload) (blockZoneAbort payload))

/-! ## Holding and releasing (R61 to R65) -/

/-- A cause reaches a zone between boundaries: an active zone that is not HELD enters HELD with that one cause, a
HELD zone has it join its set, another zone is left as it is (R47, R61, R62). -/
def ZoneRec.holdFor (r : ZoneRec) (c : Cause) : ZoneRec :=
  match r.state with
  | .running | .stepping | .keeping =>
    { r with state := .held, causes := .only c, target := targetFrom r.state, steps := 0 }
  | .held => { r with causes := r.causes.union (.only c) }
  | .idle | .tripped => r

/-- A cause reaches a zone, with a ZONE_STATE report when the state or the cause set changes (R48, R61, R62). -/
def State.holdZone (s : State) (z : ZoneId) (c : Cause) (why : StateReason) : State :=
  let x := s.zone z
  let r := x.zr.holdFor c
  let s' := s.setZone z { x with zr := r }
  if r.state = x.zr.state ∧ r.causes = x.zr.causes then s' else s'.reportState z x.zr.state why

/-- ZONE_PAUSE (R61). -/
def blockZonePause (p : List Byte) (s : State) : Answer :=
  onZone p s fun z =>
    let st := (s.zone z).zr.state
    if st.isActive then (Status.ok.bytes, s.holdZone z .host .pause)
    else refuse (.badState st.code) s

def execZonePause (seq : Byte) (payload : List Byte) (s : State) : Host.Outcome State Fault Refusal :=
  s.carryOut (·.serve ⟨seq, 0x11, payload⟩ (hasLength 1 payload) (blockZonePause payload))

/-- The causes that a RESUME removes: those named and present, but for SENSOR while the live feedback sensor is
present and not usable (R63). -/
def removable (named present : Causes) (sensorBroken : Bool) : Causes :=
  let c := named.inter present
  { c with sensor := c.sensor && !sensorBroken }

/-- The zone record of a HELD zone after a RESUME (R63). -/
def ZoneRec.resume (r : ZoneRec) (removed : Causes) : ZoneRec :=
  let left := r.causes.minus removed
  { r with
    causes := left
    state := if left.isEmpty then (match r.target with | .running => .running | .keeping => .keeping)
      else r.state }

/-- ZONE_RESUME: zone, cause set to clear (R63, R208). -/
def blockZoneResume (p : List Byte) (s : State) : Answer :=
  onZone p s fun z =>
    let x := s.zone z
    if x.zr.state ≠ .held then refuse (.badState x.zr.state.code) s
    else
      let named := Causes.ofByte (at8 p 1)
      let removed := removable named x.zr.causes (s.feedbackBroken z)
      let r := x.zr.resume removed
      let s' := s.setZone z { x with zr := r }
      let st : Status := if removed = named.inter x.zr.causes then .ok else .part
      (st.bytes ++ [r.causes.code],
        if r.causes = x.zr.causes ∧ r.state = x.zr.state then s' else s'.reportState z .held .resume)

def execZoneResume (seq : Byte) (payload : List Byte) (s : State) : Host.Outcome State Fault Refusal :=
  s.carryOut (·.serve ⟨seq, 0x12, payload⟩ (hasLength 2 payload) (blockZoneResume payload))

/-- A zone that ZONE_STEP accepts: HELD, resume target RUNNING, neither SENSOR nor LINK among its causes (R65). -/
def ZoneRec.steppable (r : ZoneRec) : Bool :=
  decide (r.state = .held ∧ r.target = .running) && !r.causes.sensor && !r.causes.link

/-- ZONE_STEP: zone, step count (R65, R208). -/
def blockZoneStep (p : List Byte) (s : State) : Answer :=
  onZone p s fun z =>
    let x := s.zone z
    if nat8 p 1 = 0 then refuse (.badValue .count) s
    else if x.zr.steppable then
      (Status.ok.bytes,
        (s.setZone z { x with zr := { x.zr with state := .stepping, causes := .none, steps := nat8 p 1 } }).reportState
          z .held .step)
    else refuse (.badState x.zr.state.code) s

def execZoneStep (seq : Byte) (payload : List Byte) (s : State) : Host.Outcome State Fault Refusal :=
  s.carryOut (·.serve ⟨seq, 0x13, payload⟩ (hasLength 2 payload) (blockZoneStep payload))

/-- ZONE_SKIP: accepted in the states that hold a program (R66). -/
def blockZoneSkip (p : List Byte) (s : State) : Answer :=
  onZone p s fun z =>
    let x := s.zone z
    if x.zr.holdsProgram then
      (Status.ok.bytes, s.setZone z { x with zr := { x.zr with skip := true } })
    else refuse (.badState x.zr.state.code) s

def execZoneSkip (seq : Byte) (payload : List Byte) (s : State) : Host.Outcome State Fault Refusal :=
  s.carryOut (·.serve ⟨seq, 0x14, payload⟩ (hasLength 1 payload) (blockZoneSkip payload))

/-! ## Trip and clear (R120, R122, R123) -/

/-- ZONE_TRIP (R120). -/
def blockZoneTrip (p : List Byte) (s : State) : Answer :=
  onZone p s fun z =>
    let st := (s.zone z).zr.state
    if st.isActive then (Status.ok.bytes, s.trip z .hostZone none)
    else refuse (.badState st.code) s

def execZoneTrip (seq : Byte) (payload : List Byte) (s : State) : Host.Outcome State Fault Refusal :=
  s.carryOut (·.serve ⟨seq, 0x15, payload⟩ (hasLength 1 payload) (blockZoneTrip payload))

/-- A guard condition persists: the sensor is FAILED, or its last scaled reading is outside the limits (R122,
row 4). -/
def State.guardPersists (s : State) (g : GuardEntry) : Bool :=
  decide ((s.sensor g.sensor).status = .failed)
    || (s.sensor g.sensor).lastScaled.any (fun r => decide (judge g r ≠ .inside))

/-- The first live guard entry whose condition persists, with its number (R122, R200). -/
def State.guardStillActive (s : State) (z : ZoneId) : Option (Nat × SensorId) :=
  ((s.zone z).live.guards.zipIdx.find? (fun g => s.guardPersists g.1)).map (fun g => (g.2, g.1.sensor))

/-- The zone's own data after an accepted ZONE_CLEAR_TRIP (R123). -/
def Zone.clearTrip (x : Zone) : Zone :=
  { x with trip := none, exc := ⟨0, 0⟩, zr := { x.zr with state := .idle } }

/-- ZONE_CLEAR_TRIP (R122, R123): the reply carries the zone and its trip record. -/
def blockZoneClearTrip (p : List Byte) (s : State) : Answer :=
  onZone p s fun z =>
    let x := s.zone z
    if x.zr.state ≠ .tripped then refuse (.badState x.zr.state.code) s
    else if s.stop.asserted then refuse .stopped s
    else
      match s.guardStillActive z with
      | some (e, i) => refuse (.stillActive e i) s
      | none =>
        (Status.ok.bytes ++ [byte z.val] ++ (x.trip.map TripRec.bytes).getD (List.replicate 10 0),
          (s.setZone z x.clearTrip).reportState z .tripped .clearTrip)

def execZoneClearTrip (seq : Byte) (payload : List Byte) (s : State) : Host.Outcome State Fault Refusal :=
  s.carryOut (·.serve ⟨seq, 0x16, payload⟩ (hasLength 1 payload) (blockZoneClearTrip payload))

/-! ## Observing (R71, R209) -/

/-- The three loop stack entries of the status record, outermost first, missing ones 0. -/
def loopBytes (stack : List Loop) (i : Nat) : List Byte :=
  match stack[i]? with
  | some l => [byte l.repeatAt, byte l.remaining]
  | none => [0, 0]

/-- The trip cause that ZONE_STATUS shows: that of the record in TRIPPED, and 0 otherwise (R71, R209). -/
def Zone.shownTripCause (x : Zone) : Nat :=
  if x.zr.state = .tripped then (x.trip.map (·.cause.code.toNat)).getD 0 else 0

/-- The status record of a zone, bytes 1 to 32 of the reply (R209). -/
def State.statusBytes (s : State) (z : ZoneId) : List Byte :=
  let x := s.zone z
  let r := x.zr
  [byte z.val, r.state.code, r.causes.code,
    byte (flagBit (decide (r.target = .keeping)) 1 + flagBit r.entered 2 + flagBit r.runMark 4
      + flagBit r.skip 8 + flagBit r.holdBack 16 + flagBit r.expired 32
      + flagBit x.ctl.trimmedLast 64 + flagBit x.pending 128),
    byte (flagBit x.restricted 1 + 2 * x.shownTripCause + 16 * r.stack.length),
    (r.active.map (fun k => byte k.val)).getD 0xFF,
    byte r.seg]
  ++ be24 r.elapsed ++ beS16 r.origin ++ beS16 r.setpoint ++ [byte r.steps]
  ++ be24 x.ctl.acc.toNat ++ be16 x.ctl.lastDemand ++ be16 x.ctl.lastGrant
  ++ (match x.live.feedback with
    | some i => [byte i.val, (s.sensor i).status.code] ++ beS16 (s.sensor i).filtered
    | none => [0xFF, 0, 0, 0])
  ++ loopBytes r.stack 0 ++ loopBytes r.stack 1 ++ loopBytes r.stack 2

/-- ZONE_STATUS (R71). -/
def blockZoneStatus (p : List Byte) (s : State) : Answer :=
  onZone p s fun z => (Status.ok.bytes ++ s.statusBytes z, s)

def execZoneStatus (seq : Byte) (payload : List Byte) (s : State) : Host.Outcome State Fault Refusal :=
  s.carryOut (·.serve ⟨seq, 0x17, payload⟩ (hasLength 1 payload) (blockZoneStatus payload))

end Sys2Proof.Machine
end

