-- ==== Sys2Proof/Machine/LinkEvents.lean ====
section
/-! DEFINITION. The events of the line, of the link's timers and of the transmitter: RECEIVED_BYTE, GOOD_FRAME,
FRAME_CRC, FRAME_LENGTH, FRAME_GAP, SILENCE_TIMER_EXPIRY, GO_BACK, FRAME_SENT (R62, R175 to R178, R183, R187, R188,
R190, R192, R193). -/

namespace Sys2Proof.Machine

/-! ## The receiver -/

/-- The receiver returns to HUNTING (R175). -/
def State.hunt (s : State) : State := { s with link := { s.link with receiver := .hunting } }

/-- A good frame ends the LOST state: LINK_RESTORED is submitted (R193). -/
def State.endLost (s : State) : State :=
  if s.link.connected then s
  else ({ s with link := { s.link with connected := true } } : State).submit .linkRestored

/-- A good frame joins the receive queue, or is lost for OVERRUN when four frames wait (R177). -/
def State.joinQueue (s : State) (f : WireFrame) : State :=
  if s.link.rxQueue.length < Config.linkPlaces then
    { s with link := { s.link with rxQueue := s.link.rxQueue ++ [f] } }
  else s.countLoss .overrun

/-- A good frame arrives (R177, R193). -/
def State.goodFrame (s : State) (f : WireFrame) : State := (s.restartSilence.endLost).joinQueue f

/-- GOOD_FRAME (R177): the frame that completes at the receiver. A payload of more than 120 bytes is in no frame
(R174), and nothing changes (log entry 5). -/
def execGoodFrame (seq kind : Byte) (payload : List Byte) (s : State) : Host.Outcome State Fault Refusal :=
  s.carryOut fun s => if payloadFits payload then s.hunt.goodFrame ⟨seq, kind, payload⟩ else s

/-- FRAME_CRC (R176): a complete frame whose CRC differs is discarded and counted. -/
def execFrameCrc (s : State) : Host.Outcome State Fault Refusal :=
  s.carryOut (·.hunt.countLoss .crc)

/-- FRAME_LENGTH (R176): a frame is abandoned as its LENGTH byte, above 120, arrives, and is counted. -/
def execFrameLength (s : State) : Host.Outcome State Fault Refusal :=
  s.carryOut (·.hunt.countLoss .length)

/-- FRAME_GAP (R176): the frame being collected is abandoned when 10 ms pass without its next byte, and is counted.
With no frame being collected nothing changes (log entry 12). -/
def execFrameGap (s : State) : Host.Outcome State Fault Refusal :=
  s.carryOut fun s =>
    match s.link.receiver with
    | .hunting => s
    | .collecting _ => s.hunt.countLoss .gap

/-- The frame of complete bytes after SYNC: LENGTH, SEQ, KIND, payload, CRC (R174). -/
def frameOf (bytes : List Byte) : WireFrame :=
  { seq := at8 bytes 1, kind := at8 bytes 2, payload := (bytes.drop 3).take (nat8 bytes 0) }

/-- The CRC that complete bytes carry: the last two, high byte first (R174). -/
def carriedCrc (bytes : List Byte) : BitVec 16 :=
  at8 bytes (nat8 bytes 0 + 3) ++ at8 bytes (nat8 bytes 0 + 4)

/-- The bytes of a frame after SYNC are complete at the second CRC byte (R175). -/
def isComplete (bytes : List Byte) : Bool := decide (bytes.length = nat8 bytes 0 + 5)

/-- A byte taken while COLLECTING (R175, R176): LENGTH is judged as it arrives, the CRC at the frame's last
byte. -/
def State.collect (s : State) (bytes : List Byte) : State :=
  if Config.maxPayload < nat8 bytes 0 then s.hunt.countLoss .length
  else if isComplete bytes then
    if carriedCrc bytes = (frameOf bytes).crc then s.hunt.goodFrame (frameOf bytes)
    else s.hunt.countLoss .crc
  else { s with link := { s.link with receiver := .collecting bytes } }

/-- RECEIVED_BYTE (R173, R175): the eight data bits as they were received, whatever the stop bit
(log entry 6). -/
def execReceivedByte (b : Byte) (s : State) : Host.Outcome State Fault Refusal :=
  s.carryOut fun s =>
    match s.link.receiver with
    | .hunting =>
      if b = 0xC3#8 then { s with link := { s.link with receiver := .collecting [] } } else s
    | .collecting bytes => s.collect (bytes ++ [b])

/-! ## The silence timer and the go-back -/

/-- The expiry at the link (R192): it becomes LOST and the timer stops, and LINK_LOST is submitted with the timeout the
timer ran with (log entry 22). A stopped timer does not expire (log entry 12). -/
def State.loseLink (s : State) : State :=
  match s.link.silence with
  | none => s
  | some t => ({ s with link := { s.link with connected := false, silence := none } } : State).submit (.linkLost t)

/-- The expiry reaches a zone (R62). -/
def State.holdForLink (s : State) (z : ZoneId) : State := s.holdZone z .link .link

/-- SILENCE_TIMER_EXPIRY (R192, R62): the link becomes LOST, and the zones are held, in the order the command carries
(log entry 8). An expiry at the instant of a cycle start may come within CYCLE_START instead. -/
def execSilenceTimerExpiry (order : List Nat) (s : State) : Host.Outcome State Fault Refusal :=
  s.carryOut fun s =>
    if s.link.silence = none then s else (orderOf 12 order).foldl State.holdForLink s.loseLink

/-- Every report that is SENT or DUE becomes DUE; a report being sent completes its bytes on TXD, as it drives them,
and becomes DUE at its end (R188, R190). -/
def Link.goBack (l : Link) : Link :=
  { l with
    reports := l.reports.map (fun q => if q.st = .fresh then q else { q with st := .due })
    tx := match l.tx with
      | .report f _ => .report f true
      | t => t }

/-- GO_BACK (R190): the resend timer expires and restarts; with a window count above 0 the go-back is made. A
stopped timer does not expire (log entry 12). -/
def execGoBack (s : State) : Host.Outcome State Fault Refusal :=
  s.carryOut fun s =>
    match s.link.resend with
    | none => s
    | some _ =>
      let l := if 0 < s.link.windowCount then s.link.goBack else s.link
      { s with link := { l with resend := some s.device.live.resend } }

/-! ## The transmitter -/

/-- The last byte of the frame in transmission leaves TXD: a reply leaves its queue (R182), a report leaves it or
becomes SENT (R187, R188), and the arbiter chooses the next frame (R183). When the frame is the reply to RESTART, the
soft reset takes effect at this instant (R195). With no frame to send nothing changes (log entry 12). -/
def State.endFrame (s : State) : State :=
  if s.sendsRestartReply then s.softResetAll
  else
    let l := match s.link.tx with
      | .idle => s.link
      | .reply _ => { s.link with replies := s.link.replies.tail }
      | .report f wentBack => s.link.reportSent s.device.live f.seq wentBack
    { s with link := l.choose s.device.live.ack }

/-- FRAME_SENT (R183): the frame that ends is the one in transmission, which after a reset is STARTED, chosen by the
IDLE transmitter that the reset left (R194, R196). -/
def execFrameSent (s : State) : Host.Outcome State Fault Refusal := .next s.wake.endFrame

end Sys2Proof.Machine
end

