-- ==== Sys2Proof/Machine/Process.lean ====
section
/-! DEFINITION. The events of the modulator and of the STOP pin: TICK (R130, R138), CYCLE_START (R130 to R132, R171,
R191) and STOP_SAMPLE (R124 to R127). -/

namespace Sys2Proof.Machine

/-! ## TICK -/

/-- The next tick is a cycle's tick 0 (R130): tick 255, the last of 256, is in progress, or the first cycle after a
hard reset has still to begin (R146). -/
def Modulator.atCycleEnd (m : Modulator) : Bool := m.fresh || decide (255 ≤ m.tick)

/-- The tick in progress becomes `t`, and every pin is driven at its level (R138). -/
def State.startTick (s : State) (t : Nat) : State :=
  ({ s with modulator := { s.modulator with tick := t } } : State).mapZones (fun x => x.drive t)

/-- TICK (R130, R138): the next of the ticks 1 to 255 of the cycle in progress starts. Tick 0 comes with CYCLE_START;
where a cycle start is due no other tick starts, and nothing changes (log entry 13). -/
def execTick (s : State) : Host.Outcome State Fault Refusal :=
  s.carryOut fun s => if s.modulator.atCycleEnd then s else s.startTick (s.modulator.tick + 1)

/-! ## CYCLE_START -/

/-- What the link does when a new device record becomes live (R191). A report in transmission stays in the
transmitter with its go-back mark. Acknowledgement turned off removes it where it is SENT or DUE and leaves it in the
queue where it is NEW, to leave at its end by R187. Where acknowledgement is turned on again before that end, a report
still queued becomes SENT, or DUE if a go-back fell in this transmission: R191's two rows and R188 do not say which of
them rules such a transmission (DESIGN CHOICE, log entry 24). -/
def Link.newDevice (l : Link) (old new : DeviceRec) : Link :=
  let acked :=
    if old.ack = true ∧ new.ack = false then
      { l with reports := l.reports.filter (fun q => decide (q.st = .fresh)), resend := none }
    else if old.ack = false ∧ new.ack = true then
      { l with reports := l.reports.map (fun q => { q with st := .fresh }) }
    else l
  if old.timeout ≠ new.timeout ∧ l.connected = true then
    { acked with silence := silenceFrom new.timeout }
  else acked

/-- A pending device commit is applied (R171, R191), before its COMMITTED report is submitted (log entry 17). -/
def State.applyDevice (s : State) : State :=
  if s.device.pending then
    ({ s with
      device := { s.device with live := s.device.staged, pending := false }
      link := s.link.newDevice s.device.live s.device.staged } : State).submit (.committed none .applied)
  else s

/-- The cycle counter at a cycle start: 0 at the first one after a hard reset and when a new cycle length takes
effect, else one more, from 15 to 0 (R131). -/
def nextCounter (m : Modulator) (newLength : Bool) : Nat :=
  if m.fresh || newLength then 0 else (m.counter + 1) % 16

/-- A cycle start of a zone that is not its boundary: the frame position rises by one (R133). -/
def Zone.passCycle (x : Zone) : Zone := { x with frame := { x.frame with pos := x.frame.pos + 1 } }

/-- The boundaries that fall at the counter's value, in an order (R132), and the other zones' frame positions. -/
def State.cycleZone (s : State) (z : ZoneId) : State :=
  if (s.zone z).live.frameOffset = s.modulator.counter then s.boundary z
  else s.setZone z (s.zone z).passCycle

/-- The cycle start itself (R131, R171): a pending device commit is applied and the counter takes its new value. -/
def State.beginCycle (s : State) : State :=
  let a := s.applyDevice
  let newLength := decide (a.device.live.cycle ≠ s.device.live.cycle)
  { a with modulator := { counter := nextCounter a.modulator newLength, tick := 0, fresh := false } }

/-- One thing that falls at the instant of a cycle start. -/
def State.cycleEvent (s : State) : CycleEvent → State
  | .start => s.beginCycle
  | .boundary z => s.cycleZone z
  | .expiry => s.loseLink
  | .hold z => s.holdForLink z

/-- The device commit of this cycle start restarts or stops the silence timer (R191). -/
def State.restartsSilence (s : State) : Bool :=
  s.device.pending && s.link.connected && decide (s.device.live.timeout ≠ s.device.staged.timeout)

/-- The silence timer can expire where the order has its expiry: it runs, and the device commit of this cycle start has
not restarted or stopped it before. -/
def State.canExpire (s : State) (order : List CycleEvent) : Bool :=
  s.link.silence.isSome && (!s.restartsSilence || (order.takeWhile (fun e => decide (e ≠ .start))).contains .expiry)

/-- What falls at this cycle start, in the order the command carries; zone number order and no expiry where it carries
none (log entry 8). An expiry of a timer that cannot expire does not fall (log entry 12). -/
def State.cycleOrder (s : State) (order : List CycleEvent) : List CycleEvent :=
  let order := if isCycleOrder order then order else plainCycle
  if s.canExpire order then order else order.filter (fun e => !e.isLink)

/-- A cycle start (R131): what falls at it, one thing after the other (log entry 9), and the pins are driven for
tick 0. -/
def State.startCycle (s : State) (order : List CycleEvent) : State :=
  ((s.cycleOrder order).foldl State.cycleEvent s).startTick 0

/-- CYCLE_START (R130, R131): a cycle starts at the end of tick 255 of the one before, and the first one as a hard
reset ends (R146). The silence timer may expire at the same instant: each zone's boundary is then taken before or after
the expiry reaches the zone, as the order says (R62). Within a cycle no cycle starts, and nothing changes (log entry
13). -/
def execCycleStart (order : List CycleEvent) (s : State) : Host.Outcome State Fault Refusal :=
  s.carryOut fun s => if s.modulator.atCycleEnd then s.startCycle order else s

/-! ## STOP_SAMPLE -/

/-- The qualifier asserts (R125, R127): both counts 0, the zones tripped in zone number order, STOP_STATE last. -/
def State.assertStop (s : State) : State :=
  let s' : State := { s with stop := { asserted := true, lowCount := 0, highCount := 0 } }
  (s'.tripAll .stopInput).submit (.stopAsserted s.activeCount)

/-- The qualifier releases (R126, R127). -/
def State.releaseStop (s : State) : State :=
  ({ s with stop := { asserted := false, lowCount := 0, highCount := 0 } } : State).submit .stopReleased

/-- STOP_SAMPLE (R124): the level of the pin at the sample. -/
def execStopSample (high : Bool) (s : State) : Host.Outcome State Fault Refusal :=
  s.carryOut fun s =>
    match s.stop.asserted, high with
    | false, false =>
      if 3 ≤ s.stop.lowCount + 1 then s.assertStop
      else { s with stop := { s.stop with lowCount := s.stop.lowCount + 1 } }
    | false, true => { s with stop := { s.stop with lowCount := 0 } }
    | true, true =>
      if 3 ≤ s.stop.highCount + 1 then s.releaseStop
      else { s with stop := { s.stop with highCount := s.stop.highCount + 1 } }
    | true, false => { s with stop := { s.stop with highCount := 0 } }

end Sys2Proof.Machine
end

