-- ==== Sys2Proof/Machine/ProgramRequests.lean ====
section
/-! DEFINITION. The program requests (R5 to R16, R207) and the seal check. -/

namespace Sys2Proof.Machine

/-! ## The seal check (R3, R9 to R12) -/

/-- A required field is absent: the duration of a RAMP, SOAK or DRIVE (R3, R10). -/
def Seg.missesField (g : Seg) (k : SegKind) : Bool :=
  match k with
  | .ramp | .soak | .drive => g.duration?.isNone
  | _ => false

/-- A present duration outside 1 to 1,048,575. -/
def Seg.durationBad (g : Seg) : Bool := g.duration?.any (fun d => decide (d < 1 ∨ Config.maxDuration < d))

/-- A present band outside 1 to 32767. -/
def Seg.bandBad (g : Seg) : Bool := g.band?.any (fun b => decide (b < 1 ∨ 32767 < b))

/-- A used field outside its range (R3, R10, R203). -/
def Seg.rangeBad (g : Seg) (k : SegKind) : Bool :=
  match k with
  | .ramp | .soak | .step => g.durationBad || g.bandBad
  | .drive => g.durationBad || decide (Config.fullDuty < g.number)
  | .rep => decide (g.number < 2 ∨ 255 < g.number)
  | .mark => decide (255 < g.number)
  | .again | .fin => false

/-- The field checks of one segment (R10). -/
def Seg.fieldCheck (g : Seg) : Option SealReason :=
  match g.kind with
  | none => some .fieldRange
  | some k =>
    if g.missesField k then some .missingField
    else if g.rangeBad k then some .fieldRange
    else none

/-- The structure check of a segment at an index, with the open REPEATs innermost first: a failure, or the open
REPEATs after it (R11). -/
def structureCheck (length index : Nat) (opens : List Nat) (g : Seg) : Except SealReason (List Nat) :=
  match g.kind with
  | some .fin => if index + 1 < length then .error .endNotLast else .ok opens
  | some .rep => if 3 ≤ opens.length then .error .loopTooDeep else .ok (index :: opens)
  | some .again =>
    match opens with
    | [] => .error .againWithoutRepeat
    | i :: rest => if i + 1 = index then .error .emptyLoop else .ok rest
  | _ => .ok opens

/-- The end-of-program checks (R12). -/
def endCheck (segs : List Seg) (opens : List Nat) : Option SealResult :=
  match segs.getLast? with
  | none => some ⟨.emptyProgram, 0⟩
  | some g =>
    if g.kind ≠ some .fin then some ⟨.noEnd, segs.length - 1⟩
    else
      match opens with
      | [] => none
      | i :: _ => some ⟨.repeatUnclosed, i⟩

/-- The check over the segments from an index on: the first failure (R9). -/
def sealFrom (whole : List Seg) : List Seg → Nat → List Nat → Option SealResult
  | [], _, opens => endCheck whole opens
  | g :: rest, index, opens =>
    match g.fieldCheck with
    | some reason => some ⟨reason, index⟩
    | none =>
      match structureCheck whole.length index opens g with
      | .error reason => some ⟨reason, index⟩
      | .ok opens' => sealFrom whole rest (index + 1) opens'

/-- The seal check of a program: its first failure, or none (R9). -/
def sealCheck (segs : List Seg) : Option SealResult := sealFrom segs segs 0 []

/-! ## The requests -/

/-- The slot's segments return to the free list and the slot takes a state, empty (R6, R14). -/
def State.emptySlot (s : State) (k : SlotId) (st : SlotState) : State :=
  let s' := s.setSlot k { s.slot k with state := st, segs := [], sealResult := none }
  { s' with store := { s'.store with free := s.store.free + (s.slot k).segs.length } }

/-- PROG_OPEN (R6). -/
def blockProgOpen (p : List Byte) (s : State) : Answer :=
  onSlot p s fun k =>
    if 0 < (s.slot k).useCount then refuse (.inUse (s.slot k).useCount) s
    else
      let s' := s.emptySlot k .opened
      (Status.ok.bytes ++ be16 s'.store.free, s')

def execProgOpen (seq : Byte) (payload : List Byte) (s : State) : Host.Outcome State Fault Refusal :=
  s.carryOut (·.serve ⟨seq, 0x09, payload⟩ (hasLength 1 payload) (blockProgOpen payload))

/-- Segments are appended to a slot, taking records from the free list (R8). -/
def State.appendSegs (s : State) (k : SlotId) (segs : List Seg) : State :=
  let s' := s.setSlot k { s.slot k with segs := (s.slot k).segs ++ segs }
  { s' with store := { s'.store with free := s.store.free - segs.length } }

/-- PROG_APPEND (R7, R8). -/
def blockProgAppend (p : List Byte) (s : State) : Answer :=
  onSlot p s fun k =>
    let segs := appendSegs p
    let x := s.slot k
    if x.state ≠ .opened then refuse (.badState x.state.code) s
    else if s.store.free < segs.length ∨ Config.maxProgram < x.segs.length + segs.length then
      refuse (.noSpace s.store.free x.segs.length) s
    else
      let s' := s.appendSegs k segs
      (Status.ok.bytes ++ [byte (s'.slot k).segs.length] ++ be16 s'.store.free, s')

def execProgAppend (seq : Byte) (payload : List Byte) (s : State) : Host.Outcome State Fault Refusal :=
  s.carryOut (·.serve ⟨seq, 0x0A, payload⟩ (appendLengthOk payload) (blockProgAppend payload))

/-- PROG_SEAL (R9 to R13). -/
def blockProgSeal (p : List Byte) (s : State) : Answer :=
  onSlot p s fun k =>
    let x := s.slot k
    if x.state ≠ .opened then refuse (.badState x.state.code) s
    else
      match sealCheck x.segs with
      | some f =>
        ((Status.invalidProgram f.index f.reason).bytes, s.setSlot k { x with sealResult := some f })
      | none =>
        (Status.ok.bytes ++ [byte x.segs.length], s.setSlot k { x with state := .sealed, sealResult := none })

def execProgSeal (seq : Byte) (payload : List Byte) (s : State) : Host.Outcome State Fault Refusal :=
  s.carryOut (·.serve ⟨seq, 0x0B, payload⟩ (hasLength 1 payload) (blockProgSeal payload))

/-- PROG_DELETE (R14). -/
def blockProgDelete (p : List Byte) (s : State) : Answer :=
  onSlot p s fun k =>
    if 0 < (s.slot k).useCount then refuse (.inUse (s.slot k).useCount) s
    else
      let s' := s.emptySlot k .empty
      (Status.ok.bytes ++ be16 s'.store.free, s')

def execProgDelete (seq : Byte) (payload : List Byte) (s : State) : Host.Outcome State Fault Refusal :=
  s.carryOut (·.serve ⟨seq, 0x0C, payload⟩ (hasLength 1 payload) (blockProgDelete payload))

/-- The seal result as PROG_INFO sends it: reason 0 and index 0 when absent (R207). -/
def sealBytes : Option SealResult → List Byte
  | some f => [f.reason.code, byte f.index]
  | none => [0, 0]

/-- PROG_INFO (R15). -/
def blockProgInfo (p : List Byte) (s : State) : Answer :=
  onSlot p s fun k =>
    let x := s.slot k
    (Status.ok.bytes ++ [x.state.code, byte x.segs.length, byte x.useCount] ++ sealBytes x.sealResult
      ++ be16 s.store.free, s)

def execProgInfo (seq : Byte) (payload : List Byte) (s : State) : Host.Outcome State Fault Refusal :=
  s.carryOut (·.serve ⟨seq, 0x0D, payload⟩ (hasLength 1 payload) (blockProgInfo payload))

/-- PROG_READ (R16): payload bytes 1 and 2 are the first index and the count. -/
def blockProgRead (p : List Byte) (s : State) : Answer :=
  onSlot p s fun k =>
    let x := s.slot k
    let first := nat8 p 1
    let count := nat8 p 2
    if count < 1 ∨ Config.maxCarried < count then refuse (.badValue .count) s
    else if x.segs.length < first + count then refuse (.badValue .first) s
    else
      (Status.ok.bytes ++ [byte k.val, byte first, byte count]
        ++ ((x.segs.drop first).take count).flatMap Seg.bytes, s)

def execProgRead (seq : Byte) (payload : List Byte) (s : State) : Host.Outcome State Fault Refusal :=
  s.carryOut (·.serve ⟨seq, 0x0E, payload⟩ (hasLength 3 payload) (blockProgRead payload))

end Sys2Proof.Machine
end

