-- ==== Sys2Proof/Machine/SensorRequests.lean ====
section
/-! DEFINITION. The sensor requests (R91, R92, R96, R106, R107, R212), the takeover of a pending scan list (R93 to
R95), and the conversion completion with the guard unit's evaluation (R98 to R105, R112 to R115). -/

namespace Sys2Proof.Machine

/-! ## Setting and reading a sensor -/

/-- SENSOR_SET (R106). -/
def blockSensorSet (p : List Byte) (s : State) : Answer :=
  onSensor p s fun i =>
    match sensorFault p with
    | some f => refuse (.badValue f) s
    | none => (Status.ok.bytes, s.setSensor i (sensorWith p (s.sensor i)))

def execSensorSet (seq : Byte) (payload : List Byte) (s : State) : Host.Outcome State Fault Refusal :=
  s.carryOut (·.serve ⟨seq, 0x1C, payload⟩ (hasLength 13 payload) (blockSensorSet payload))

/-- The sensor record, bytes 1 to 24 of the reply (R212). R107 and R212 do not say what the two bytes of an absent last
scaled reading hold; they are sent as 0 (DESIGN CHOICE, log entry 25). R212 names bits 0 and 1 of the threshold byte and
of the flags byte; bits 2 to 7 are sent as 0 (DESIGN CHOICE, log entry 26). -/
def State.sensorBytes (s : State) (i : SensorId) : List Byte :=
  let n := s.sensor i
  [byte i.val] ++ beS16 n.gain ++ beS16 n.offset
  ++ [byte n.shift, byte (flagBit n.openAt.isSome 1 + flagBit n.shortAt.isSome 2)]
  ++ be16 (n.openAt.getD 0) ++ be16 (n.shortAt.getD 0)
  ++ [byte n.faultCount, n.status.code] ++ be16 n.lastCode
  ++ [n.lastClass.code, byte (flagBit n.lastScaled.isSome 1 + flagBit n.seeded 2)]
  ++ beS16 (n.lastScaled.getD 0) ++ beS16 n.filtered
  ++ [byte n.invalids, byte n.valids, byte (s.scan.live.count i)]

/-- SENSOR_READ (R107). -/
def blockSensorRead (p : List Byte) (s : State) : Answer :=
  onSensor p s fun i => (Status.ok.bytes ++ s.sensorBytes i, s)

def execSensorRead (seq : Byte) (payload : List Byte) (s : State) : Host.Outcome State Fault Refusal :=
  s.carryOut (·.serve ⟨seq, 0x1D, payload⟩ (hasLength 1 payload) (blockSensorRead payload))

/-! ## The takeover (R91 row 3, R93 to R95) -/

/-- The lowest-numbered sensor that a list omits while an active zone uses it (R91, row 3; R95). -/
def State.omitted (s : State) (list : List SensorId) : Option SensorId :=
  allSensors.find? (fun i => !list.contains i && allZones.any (fun z => (s.zone z).uses i))

/-- A sensor record at a takeover, by whether the old and the new list name it (R94). -/
def Sensor.takeover (n : Sensor) (old new : Bool) : Sensor :=
  match old, new with
  | true, true => n
  | false, true => { n with status := .waiting, invalids := 0, valids := 0, seeded := false }
  | true, false => { n with status := .unscanned, invalids := 0, valids := 0 }
  | false, false => { n with status := .unscanned }

/-- The pending list, if any, is checked again and taken or withdrawn (R93 to R95). `order` is the order of the
SENSOR_STATE reports of sensors that leave FAILED (R104, log entry 8). -/
def State.takePending (s : State) (order : List SensorId) : State :=
  match s.scan.pending with
  | none => s
  | some list =>
    let cleared := { s with scan := { s.scan with pending := none } }
    match s.omitted list with
    | some i => cleared.submit (.scanWithdrawn s.scan.live.length i)
    | none =>
      let taken : State := { cleared with
        scan := { cleared.scan with live := list }
        sensors := Vector.ofFn (fun i : SensorId =>
          (s.sensor i).takeover (s.scan.live.contains i) (list.contains i)) }
      let left := order.filter (fun i => decide ((s.sensor i).status = .failed)
        && decide ((taken.sensor i).status = .unscanned))
      (taken.submitAll (left.map (fun i => .sensorState i .unscanned))).submit (.scanTaken list.length)

/-- A new pass begins at entry 0, or the converter is IDLE when the live list is empty (R88, R93). -/
def State.beginPass (s : State) : State :=
  { s with scan := { s.scan with converting := if s.scan.live = [] then none else some 0 } }

/-- The refusal of SCAN_SET that applies first, or the list it carries (R91). -/
def State.scanFault (s : State) (p : List Byte) : Except Status (List SensorId) :=
  if Config.maxScan < nat8 p 0 then .error (.badValue .count)
  else
    match scanEntries p with
    | none => .error (.badValue .sensor)
    | some list =>
      match s.omitted list with
      | some i => .error (.inUse i.val)
      | none => .ok list

/-- SCAN_SET (R91, R92): the list becomes pending, and is taken at once when the converter is IDLE. -/
def blockScanSet (p : List Byte) (s : State) : Answer :=
  match s.scanFault p with
  | .error st => refuse st s
  | .ok list =>
    let s' := { s with scan := { s.scan with pending := some list } }
    (Status.pending.bytes,
      match s.scan.converting with
      | none => (s'.takePending allSensors).beginPass
      | some _ => s')

def execScanSet (seq : Byte) (payload : List Byte) (s : State) : Host.Outcome State Fault Refusal :=
  s.carryOut (·.serve ⟨seq, 0x1E, payload⟩ (scanLengthOk payload) (blockScanSet payload))

/-- SCAN_GET (R96, R212). -/
def blockScanGet (s : State) : Answer :=
  let waiting := s.scan.pending.getD []
  (Status.ok.bytes
    ++ [flagByte s.scan.converting.isSome, flagByte s.scan.pending.isSome, byte s.scan.live.length,
      byte waiting.length]
    ++ s.scan.live.map (fun i => byte i.val) ++ waiting.map (fun i => byte i.val), s)

def execScanGet (seq : Byte) (payload : List Byte) (s : State) : Host.Outcome State Fault Refusal :=
  s.carryOut (·.serve ⟨seq, 0x1F, payload⟩ (hasLength 0 payload) blockScanGet)

/-! ## A conversion completion (R98 to R104) -/

/-- The scaled reading of a valid code (R100). -/
def Sensor.scale (n : Sensor) (code : Nat) : Int :=
  limit (-32767) 32767 (((code : Int) * n.gain).tdiv 1024 + n.offset)

/-- The filtered value after a valid reading (R101). -/
def Sensor.filter (n : Sensor) (reading : Int) : Int :=
  if n.seeded then n.filtered + (reading - n.filtered).tdiv (2 ^ n.shift : Nat) else reading

/-- The sensor record after a completion: class, scaling, filtering, counts and status (R98 to R102). -/
def Sensor.complete (n : Sensor) (code : Nat) : Sensor :=
  let cls := classify n code
  if cls = .valid then
    let reading := n.scale code
    let valids := bump 15 n.valids
    { n with
      lastCode := code, lastClass := .valid, lastScaled := some reading, filtered := n.filter reading,
      seeded := true, invalids := 0, valids := valids,
      status := nextStatus n.status true valids 0 n.faultCount }
  else
    let invalids := bump 15 n.invalids
    { n with
      lastCode := code, lastClass := cls, valids := 0, invalids := invalids,
      status := nextStatus n.status false 0 invalids n.faultCount }

/-! ## The guard unit's evaluation of an offer (R112 to R115) -/

/-- The excursion counter of an entry, 0 or 1. -/
def Excursions.get (e : Excursions) (k : Nat) : Nat := if k = 0 then e.zero else e.one

def Excursions.set (e : Excursions) (k n : Nat) : Excursions :=
  if k = 0 then { e with zero := n } else { e with one := n }

/-- What an offer carries (R105): the sensor, the scaled reading of a valid class, the latest valid reading, and
whether the completion made the sensor enter FAILED. -/
structure Offer where
  sensor : SensorId
  reading : Option Int
  latest : Option Int
  entersFailed : Bool
  deriving DecidableEq, Repr

/-- The live guard entry of a zone that names a sensor, with its number (R112). -/
def Zone.guardOn (x : Zone) (i : SensorId) : Option (GuardEntry × Nat) :=
  x.live.guards.zipIdx.find? (fun g => decide (g.1.sensor = i))

/-- A valid reading moves the entry's counter and trips the zone at the qualify count (R113, R114). -/
def State.judgeZone (s : State) (z : ZoneId) (g : GuardEntry) (k : Nat) (reading : Int) : State :=
  let x := s.zone z
  match judge g reading with
  | .inside => s.setZone z { x with exc := x.exc.set k 0 }
  | side =>
    let n := x.exc.get k + 1
    if g.qualify ≤ n then
      (s.setZone z { x with exc := x.exc.set k 0 }).trip z
        (if side = .high then .guardHigh else .guardLow)
        (some { entry := k, sensor := g.sensor, reading := some reading })
    else s.setZone z { x with exc := x.exc.set k n }

/-- The evaluation of an offer for one zone (R112, R114, R115); an IDLE zone is not evaluated. Of two entries on one
sensor, which no live record has (R161), the first is taken (log entry 19). -/
def State.evaluateZone (s : State) (o : Offer) (z : ZoneId) : State :=
  if (s.zone z).zr.state = .idle then s
  else
    match (s.zone z).guardOn o.sensor with
    | none => s
    | some (g, k) =>
      match o.reading with
      | some reading => s.judgeZone z g k reading
      | none =>
        if o.entersFailed then
          s.trip z .guardSensor (some { entry := k, sensor := o.sensor, reading := o.latest })
        else s

/-- The evaluation of an offer: the zones in zone number order (R112). -/
def State.evaluate (s : State) (o : Offer) : State :=
  allZones.foldl (fun s z => s.evaluateZone o z) s

/-- The reading of one sensor is handled: record, SENSOR_STATE report, offer (R98, R104, R105). -/
def State.handleReading (s : State) (i : SensorId) (code : Nat) : State :=
  let old := s.sensor i
  let new := old.complete code
  let s' := s.setSensor i new
  let entersFailed := decide (old.status ≠ .failed ∧ new.status = .failed)
  let leavesFailed := decide (old.status = .failed ∧ new.status ≠ .failed)
  let s'' := if entersFailed || leavesFailed then s'.submit (.sensorState i new.status) else s'
  s''.evaluate
    { sensor := i
      reading := if new.lastClass = .valid then new.lastScaled else none
      latest := new.lastScaled
      entersFailed := entersFailed }

/-- After a conversion, the next entry's conversion begins, or the pass ends with the takeover of a pending list
(R88, R93). -/
def State.nextConversion (s : State) (index : Nat) (order : List SensorId) : State :=
  if index + 1 < s.scan.live.length then
    { s with scan := { s.scan with converting := some (index + 1) } }
  else (s.takePending order).beginPass

/-- CONVERSION_COMPLETION (R98): the code of the conversion in progress. While the converter is IDLE no conversion
is in progress and nothing changes (log entry 12). -/
def execConversionCompletion (code : BitVec 12) (order : List Nat) (s : State) :
    Host.Outcome State Fault Refusal :=
  s.carryOut fun s =>
    match s.scan.converting with
    | none => s
    | some index =>
      match s.scan.live[index]? with
      | none => s
      | some i => (s.handleReading i code.toNat).nextConversion index (orderOf 16 order)

end Sys2Proof.Machine
end

