-- ==== Sys2Proof/Machine/StagingRequests.lean ====
section
/-! DEFINITION. The staging requests: ZONE_SET_PARAM, ZONE_GET_PARAM, ZONE_COMMIT, ZONE_DISCARD (R156, R162 to
R165, R167, R211). -/

namespace Sys2Proof.Machine

/-- ZONE_SET_PARAM (R162). -/
def blockZoneSetParam (p : List Byte) (s : State) : Answer :=
  onZone p s fun z =>
    let x := s.zone z
    if x.pending then refuse .commitPending s
    else
      match paramFault p with
      | some f => refuse (.badValue f) s
      | none => (Status.ok.bytes, s.setZone z { x with staged := paramsWith p x.staged })

def execZoneSetParam (seq : Byte) (payload : List Byte) (s : State) : Host.Outcome State Fault Refusal :=
  s.carryOut (·.serve ⟨seq, 0x18, payload⟩ (hasLength 40 payload) (blockZoneSetParam payload))

/-- ZONE_GET_PARAM: zone, copy choice (R163, R201, R211). R211 names bits 0 and 1 of the marks byte; bits 2 to 7 are sent
as 0 (DESIGN CHOICE, log entry 26). -/
def blockZoneGetParam (p : List Byte) (s : State) : Answer :=
  onZone p s fun z =>
    let x := s.zone z
    if 1 < nat8 p 1 then refuse (.badValue .copy) s
    else
      (Status.ok.bytes
        ++ [byte z.val, at8 p 1, byte (flagBit x.pending 1 + flagBit x.restricted 2)]
        ++ (if nat8 p 1 = 0 then x.live else x.staged).bytes, s)

def execZoneGetParam (seq : Byte) (payload : List Byte) (s : State) : Host.Outcome State Fault Refusal :=
  s.carryOut (·.serve ⟨seq, 0x19, payload⟩ (hasLength 2 payload) (blockZoneGetParam payload))

/-- A restricted field of the two records differs (R160, R164). -/
def restrictedDiffers (a b : Params) : Bool :=
  decide (a.feedback ≠ b.feedback ∨ a.guards ≠ b.guards ∨ a.frameOffset ≠ b.frameOffset
    ∨ a.polarity ≠ b.polarity)

/-- The two staged guard entries name the same sensor (R164, row 4). -/
def sameGuardSensor (gs : List GuardEntry) : Bool :=
  match gs with
  | [a, b] => decide (a.sensor = b.sensor)
  | _ => false

/-- A pending device commit changes the budget (R156). -/
def State.budgetPending (s : State) : Bool :=
  s.device.pending && decide (s.device.staged.budget ≠ s.device.live.budget)

/-- The budget of the first reserve check: the smaller one while a commit that changes it is pending (R156). -/
def State.checkedBudget (s : State) : Nat :=
  if s.budgetPending then min s.device.live.budget s.device.staged.budget else s.device.live.budget

/-- What a zone counts in the first reserve check of a commit of zone `z`: staged values for it and for zones with a
pending commit, live values for the others; the larger of the two while a changed budget is pending (R156). -/
def State.reserveInCheck (s : State) (z y : ZoneId) : Nat :=
  let x := s.zone y
  if y = z ∨ x.pending = true then
    (if s.budgetPending then max x.live.wr x.staged.wr else x.staged.wr)
  else x.live.wr

/-- The sum of reserves exceeds the budget (R156, check 1). -/
def State.reservesExceed (s : State) (z : ZoneId) : Bool :=
  decide (s.checkedBudget * 4096 < sumZones (s.reserveInCheck z))

/-- The counted reserves with the requesting zone's as it would stand once the commit was pending (R156). -/
def State.countedWith (s : State) (z : ZoneId) : Nat :=
  sumZones (fun y => if y = z then max (s.zone y).live.wr (s.zone y).staged.wr else (s.zone y).counted)

/-- The pool cannot set the raised reserve aside (R156, check 2). R156 also says that a commit that keeps or lowers
w × r always passes this check. Where the counted reserves and the holdings exceed the live budget before the commit
(the states of log entry 14) its formula refuses such a commit all the same: the model follows the formula (DESIGN
CHOICE, log entry 23). -/
def State.poolTooFull (s : State) (z : ZoneId) : Bool :=
  s.device.live.governor && decide (s.device.live.budget * 4096 < s.countedWith z + s.holdings)

/-- The refusal of ZONE_COMMIT that applies first, if any (R164, rows 2 to 6). -/
def State.commitFault (s : State) (z : ZoneId) : Option Status :=
  let x := s.zone z
  if x.pending then some .commitPending
  else if x.staged.ceiling < x.staged.floor then some (.badValue .floor)
  else if sameGuardSensor x.staged.guards then some (.badValue .guard)
  else if restrictedDiffers x.staged x.live = true ∧ x.zr.state ≠ .idle then some .notIdle
  else if s.reservesExceed z = true ∨ s.poolTooFull z = true then some (.badValue .reserve)
  else none

/-- ZONE_COMMIT (R164, R165). -/
def blockZoneCommit (p : List Byte) (s : State) : Answer :=
  onZone p s fun z =>
    let x := s.zone z
    match s.commitFault z with
    | some st => refuse st s
    | none =>
      (Status.pending.bytes,
        s.setZone z { x with pending := true, restricted := restrictedDiffers x.staged x.live })

def execZoneCommit (seq : Byte) (payload : List Byte) (s : State) : Host.Outcome State Fault Refusal :=
  s.carryOut (·.serve ⟨seq, 0x1A, payload⟩ (hasLength 1 payload) (blockZoneCommit payload))

/-- ZONE_DISCARD (R167). -/
def blockZoneDiscard (p : List Byte) (s : State) : Answer :=
  onZone p s fun z =>
    let x := s.zone z
    let s' := s.setZone z { x with staged := x.live, pending := false, restricted := false }
    (Status.ok.bytes, if x.pending then s'.submit (.committed (some z) .cancelled) else s')

def execZoneDiscard (seq : Byte) (payload : List Byte) (s : State) : Host.Outcome State Fault Refusal :=
  s.carryOut (·.serve ⟨seq, 0x1B, payload⟩ (hasLength 1 payload) (blockZoneDiscard payload))

end Sys2Proof.Machine
end

