-- ==== Sys2Proof/Machine/Dispatch.lean ====
section
/-! DEFINITION. exec: one arm for each command, each one direct call of its meaning. -/

namespace Sys2Proof.Machine

def exec (i : Instr) (s : State) : Host.Outcome State Fault Refusal :=
  match i with
  | .ping seq payload => Sys2Proof.Machine.execPing seq payload s
  | .identify seq payload => Sys2Proof.Machine.execIdentify seq payload s
  | .restart seq payload => Sys2Proof.Machine.execRestart seq payload s
  | .allStop seq payload => Sys2Proof.Machine.execAllStop seq payload s
  | .ackReports seq payload => Sys2Proof.Machine.execAckReports seq payload s
  | .deviceSet seq payload => Sys2Proof.Machine.execDeviceSet seq payload s
  | .deviceGet seq payload => Sys2Proof.Machine.execDeviceGet seq payload s
  | .deviceCommit seq payload => Sys2Proof.Machine.execDeviceCommit seq payload s
  | .progOpen seq payload => Sys2Proof.Machine.execProgOpen seq payload s
  | .progAppend seq payload => Sys2Proof.Machine.execProgAppend seq payload s
  | .progSeal seq payload => Sys2Proof.Machine.execProgSeal seq payload s
  | .progDelete seq payload => Sys2Proof.Machine.execProgDelete seq payload s
  | .progInfo seq payload => Sys2Proof.Machine.execProgInfo seq payload s
  | .progRead seq payload => Sys2Proof.Machine.execProgRead seq payload s
  | .zoneStart seq payload => Sys2Proof.Machine.execZoneStart seq payload s
  | .zoneAbort seq payload => Sys2Proof.Machine.execZoneAbort seq payload s
  | .zonePause seq payload => Sys2Proof.Machine.execZonePause seq payload s
  | .zoneResume seq payload => Sys2Proof.Machine.execZoneResume seq payload s
  | .zoneStep seq payload => Sys2Proof.Machine.execZoneStep seq payload s
  | .zoneSkip seq payload => Sys2Proof.Machine.execZoneSkip seq payload s
  | .zoneTrip seq payload => Sys2Proof.Machine.execZoneTrip seq payload s
  | .zoneClearTrip seq payload => Sys2Proof.Machine.execZoneClearTrip seq payload s
  | .zoneStatus seq payload => Sys2Proof.Machine.execZoneStatus seq payload s
  | .zoneSetParam seq payload => Sys2Proof.Machine.execZoneSetParam seq payload s
  | .zoneGetParam seq payload => Sys2Proof.Machine.execZoneGetParam seq payload s
  | .zoneCommit seq payload => Sys2Proof.Machine.execZoneCommit seq payload s
  | .zoneDiscard seq payload => Sys2Proof.Machine.execZoneDiscard seq payload s
  | .sensorSet seq payload => Sys2Proof.Machine.execSensorSet seq payload s
  | .sensorRead seq payload => Sys2Proof.Machine.execSensorRead seq payload s
  | .scanSet seq payload => Sys2Proof.Machine.execScanSet seq payload s
  | .scanGet seq payload => Sys2Proof.Machine.execScanGet seq payload s
  | .retry seq kind payload => Sys2Proof.Machine.execRetry seq kind payload s
  | .unknownKind seq kind payload => Sys2Proof.Machine.execUnknownKind seq kind payload s
  | .goodFrame seq kind payload => Sys2Proof.Machine.execGoodFrame seq kind payload s
  | .frameCrc => Sys2Proof.Machine.execFrameCrc s
  | .frameLength => Sys2Proof.Machine.execFrameLength s
  | .frameGap => Sys2Proof.Machine.execFrameGap s
  | .silenceTimerExpiry order => Sys2Proof.Machine.execSilenceTimerExpiry order s
  | .goBack => Sys2Proof.Machine.execGoBack s
  | .frameSent => Sys2Proof.Machine.execFrameSent s
  | .softReset => Sys2Proof.Machine.execSoftReset s
  | .hardReset cause baud1 baud0 => Sys2Proof.Machine.execHardReset cause baud1 baud0 s
  | .tick => Sys2Proof.Machine.execTick s
  | .cycleStart order => Sys2Proof.Machine.execCycleStart order s
  | .conversionCompletion code order => Sys2Proof.Machine.execConversionCompletion code order s
  | .stopSample high => Sys2Proof.Machine.execStopSample high s
  | .receivedByte b => Sys2Proof.Machine.execReceivedByte b s

end Sys2Proof.Machine
end

