-- ==== Sys2Proof/Machine/Step.lean ====
section
/-! DEFINITION. One step: the command at the front of the queue is carried out; with an empty queue the block idles,
but for the choice of an IDLE transmitter (log entry 1). -/

namespace Sys2Proof.Machine

/-- The command at the front of the queue, carried out with the queue's rest. With an empty queue the block idles: an
IDLE transmitter chooses its next frame (R183), which it has not yet done right after a reset, and nothing else
changes. -/
def step (s : State) : Host.Outcome State Fault Refusal :=
  match s.pending with
  | [] => .next s.wake
  | c :: rest => exec c { s with pending := rest }

/-- The state with the command that a word spells put at the front of its queue; unchanged where the word spells
none, as no word does (log entry 2). -/
def State.withFetchWord (s : State) (nbits w : Nat) : State :=
  match decodeTableWord nbits w with
  | some c => { s with pending := c :: s.pending }
  | none => s

end Sys2Proof.Machine
end

