-- ==== Sys2Proof/Safety.lean ====
section
/-! DEFINITION. The vocabulary in which claims are written: which request a command is, when the executor executes
it, what a reply leaves in the link, what stays as it was, and the invariants of the part. -/

namespace Sys2Proof.Machine

/-! ## Requests -/

/-- The frame that a command of the executor takes, with the KIND of its row (R204, R207, R208, R211, R212). -/
def requestFrame : Instr → Option WireFrame
  | .ping q p => some ⟨q, 0x01, p⟩
  | .identify q p => some ⟨q, 0x02, p⟩
  | .restart q p => some ⟨q, 0x03, p⟩
  | .allStop q p => some ⟨q, 0x04, p⟩
  | .ackReports q p => some ⟨q, 0x05, p⟩
  | .deviceSet q p => some ⟨q, 0x06, p⟩
  | .deviceGet q p => some ⟨q, 0x07, p⟩
  | .deviceCommit q p => some ⟨q, 0x08, p⟩
  | .progOpen q p => some ⟨q, 0x09, p⟩
  | .progAppend q p => some ⟨q, 0x0A, p⟩
  | .progSeal q p => some ⟨q, 0x0B, p⟩
  | .progDelete q p => some ⟨q, 0x0C, p⟩
  | .progInfo q p => some ⟨q, 0x0D, p⟩
  | .progRead q p => some ⟨q, 0x0E, p⟩
  | .zoneStart q p => some ⟨q, 0x0F, p⟩
  | .zoneAbort q p => some ⟨q, 0x10, p⟩
  | .zonePause q p => some ⟨q, 0x11, p⟩
  | .zoneResume q p => some ⟨q, 0x12, p⟩
  | .zoneStep q p => some ⟨q, 0x13, p⟩
  | .zoneSkip q p => some ⟨q, 0x14, p⟩
  | .zoneTrip q p => some ⟨q, 0x15, p⟩
  | .zoneClearTrip q p => some ⟨q, 0x16, p⟩
  | .zoneStatus q p => some ⟨q, 0x17, p⟩
  | .zoneSetParam q p => some ⟨q, 0x18, p⟩
  | .zoneGetParam q p => some ⟨q, 0x19, p⟩
  | .zoneCommit q p => some ⟨q, 0x1A, p⟩
  | .zoneDiscard q p => some ⟨q, 0x1B, p⟩
  | .sensorSet q p => some ⟨q, 0x1C, p⟩
  | .sensorRead q p => some ⟨q, 0x1D, p⟩
  | .scanSet q p => some ⟨q, 0x1E, p⟩
  | .scanGet q p => some ⟨q, 0x1F, p⟩
  | .retry q k p => some ⟨q, k, p⟩
  | .unknownKind q k p => some ⟨q, k, p⟩
  | .goodFrame .. | .frameCrc | .frameLength | .frameGap | .silenceTimerExpiry _ | .goBack | .frameSent
  | .softReset | .hardReset .. | .tick | .cycleStart _ | .conversionCompletion .. | .stopSample _
  | .receivedByte _ => none

/-- The payload length is one that the row's kind allows (R198). RETRY and UNKNOWN_KIND stand for no kind of their
own. -/
def lengthAllowed : Instr → Bool
  | .ping _ p => decide (p.length ≤ 119)
  | .identify _ p | .restart _ p | .allStop _ p | .deviceCommit _ p | .scanGet _ p => decide (p.length = 0)
  | .ackReports _ p | .deviceGet _ p | .progOpen _ p | .progSeal _ p | .progDelete _ p | .progInfo _ p
  | .zoneAbort _ p | .zonePause _ p | .zoneSkip _ p | .zoneTrip _ p | .zoneClearTrip _ p | .zoneStatus _ p
  | .zoneCommit _ p | .zoneDiscard _ p | .sensorRead _ p => decide (p.length = 1)
  | .zoneResume _ p | .zoneStep _ p | .zoneGetParam _ p => decide (p.length = 2)
  | .progRead _ p => decide (p.length = 3)
  | .zoneStart _ p => decide (p.length = 5)
  | .deviceSet _ p => decide (p.length = 8)
  | .sensorSet _ p => decide (p.length = 13)
  | .zoneSetParam _ p => decide (p.length = 40)
  | .progAppend _ p => decide (p.length ∈ [9, 17, 25, 33, 41, 49, 57, 65])
  | .scanSet _ p => decide (0 < p.length ∧ p.length = 1 + nat8 p 0)
  | .retry .. | .unknownKind .. => true
  | .goodFrame .. | .frameCrc | .frameLength | .frameGap | .silenceTimerExpiry _ | .goBack | .frameSent
  | .softReset | .hardReset .. | .tick | .cycleStart _ | .conversionCompletion .. | .stopSample _
  | .receivedByte _ => true

/-- The field code with which a request is refused whose first payload byte names a zone above 11 (1), a slot above
15 (2) or a sensor above 15 (6) (R5, R49, R106, R107, R162 to R164, R167, R201). -/
def numberRefused : Instr → Option Byte
  | .progOpen _ p | .progAppend _ p | .progSeal _ p | .progDelete _ p | .progInfo _ p | .progRead _ p =>
    if 15 < nat8 p 0 then some 2 else none
  | .zoneStart _ p | .zoneAbort _ p | .zonePause _ p | .zoneResume _ p | .zoneStep _ p | .zoneSkip _ p
  | .zoneTrip _ p | .zoneClearTrip _ p | .zoneStatus _ p | .zoneSetParam _ p | .zoneGetParam _ p
  | .zoneCommit _ p | .zoneDiscard _ p =>
    if 11 < nat8 p 0 then some 1 else none
  | .sensorSet _ p | .sensorRead _ p => if 15 < nat8 p 0 then some 6 else none
  | .ping .. | .identify .. | .restart .. | .allStop .. | .ackReports .. | .deviceSet .. | .deviceGet ..
  | .deviceCommit .. | .scanSet .. | .scanGet .. | .retry .. | .unknownKind .. | .goodFrame .. | .frameCrc
  | .frameLength | .frameGap | .silenceTimerExpiry _ | .goBack | .frameSent | .softReset | .hardReset ..
  | .tick | .cycleStart _ | .conversionCompletion .. | .stopSample _ | .receivedByte _ => none

/-- What a DEVICE_SET's fields with a bounded range must meet where they are carried, in the order of R169's table, each
with its field code (R169, R201, R204): CYCLE, GOVERNOR, TIMEOUT, ACK, RESEND. -/
def deviceFields (p : List Byte) : List (Prop × Byte) := [
  (bitAt p 0 0 = true → nat8 p 1 ∈ [2, 8, 32, 128], 22),
  (bitAt p 0 1 = true → nat8 p 2 ≤ 1, 23),
  (bitAt p 0 3 = true → nat8 p 5 ≤ 240, 25),
  (bitAt p 0 4 = true → nat8 p 6 ≤ 1, 26),
  (bitAt p 0 5 = true → 1 ≤ nat8 p 7 ∧ nat8 p 7 ≤ 20, 27)]

/-- A guard entry at a payload position is in its range (R110, R162). -/
def GuardInRange (p : List Byte) (i : Nat) : Prop :=
  nat8 p i ≤ 15 ∧ 1 ≤ nat8 p (i + 6) ∧ nat8 p (i + 6) ≤ 15

/-- What a ZONE_SET_PARAM's fields with a bounded range must meet where they are carried, in the order of R160's table,
each with its field code (R160, R162, R201, R211): FEEDBACK to FALLBACK, HOLD_ACTION, FRAME_OFFSET, RESERVE, POLARITY,
GUARD, REPORTS. -/
def paramFields (p : List Byte) : List (Prop × Byte) := [
  (carried p 0 = true → bitAt p 3 0 = false → nat8 p 4 ≤ 15, 7),
  (carried p 1 = true → nat16 p 5 ≤ 4095, 8),
  (carried p 2 = true → nat16 p 7 ≤ 4095, 9),
  (carried p 3 = true → nat16 p 9 ≤ 4096, 10),
  (carried p 4 = true → nat16 p 11 ≤ 4096, 11),
  (carried p 5 = true → bitAt p 3 1 = false → 1 ≤ nat16 p 13 ∧ nat16 p 13 ≤ 4096, 12),
  (carried p 6 = true → nat16 p 15 ≤ 4096, 13),
  (carried p 7 = true → nat8 p 17 ≤ 1, 14),
  (carried p 9 = true → nat8 p 19 ≤ 15, 16),
  (carried p 11 = true → nat16 p 21 ≤ 4096, 18),
  (carried p 12 = true → nat8 p 23 ≤ 1, 19),
  (carried p 13 = true → nat8 p 24 ≤ 2 ∧ (1 ≤ nat8 p 24 → GuardInRange p 25)
      ∧ (2 ≤ nat8 p 24 → GuardInRange p 32), 20),
  (carried p 14 = true → nat8 p 39 ≤ 15, 21)]

/-- What a SENSOR_SET's fields with a bounded range must meet where they are carried, in the order of R106, each with
its field code (R97, R106, R201, R212): SHIFT, OPEN, SHORT, FAULT. -/
def sensorFields (p : List Byte) : List (Prop × Byte) := [
  (bitAt p 1 2 = true → nat8 p 7 ≤ 4, 30),
  (bitAt p 1 3 = true → bitAt p 2 0 = false → nat16 p 8 ≤ 4095, 31),
  (bitAt p 1 4 = true → bitAt p 2 1 = false → nat16 p 10 ≤ 4095, 32),
  (bitAt p 1 5 = true → 1 ≤ nat8 p 12 ∧ nat8 p 12 ≤ 15, 33)]

/-- Every carried field is in its range. -/
def AllInRange (fields : List (Prop × Byte)) : Prop := ∀ x ∈ fields, x.1

/-- The field of this code is carried and out of its range, and every field before it is in its range or not carried. -/
def FirstOutOfRange (fields : List (Prop × Byte)) (code : Byte) : Prop :=
  ∃ before ok after, fields = before ++ (ok, code) :: after ∧ ¬ok ∧ ∀ x ∈ before, x.1

/-- The executor takes the frame and it is no retry, so it is executed (R179, R180). -/
def Executes (s : State) (f : WireFrame) : Prop :=
  s.canTake f = true ∧ s.link.isRetry f = false

/-- The reply of an executed frame is queued and remembered, and the frame has left the receive queue (R179,
R180). -/
def Replied (s t : State) (f : WireFrame) (payload : List Byte) : Prop :=
  t.link.rxQueue = s.link.rxQueue.tail
  ∧ t.link.replies = s.link.replies ++ [replyFrame f payload]
  ∧ t.link.retry = some { seq := f.seq, crc := f.crc, reply := replyFrame f payload }

/-! ## What stays as it was -/

/-- The part once an IDLE transmitter has chosen its next frame (R183). Every command finds it so: a reset leaves the
transmitter IDLE with STARTED to send (R196), and any other command leaves it IDLE only with nothing to send. -/
def chosen (s : State) : State :=
  if s.link.tx = .idle then { s with link := s.link.choose s.device.live.ack } else s

/-- A SENDING transmitter, an IDLE one having chosen before the command, goes on with its frame and drives TXD as
before, and one that is still IDLE has made the arbiter's choice among what is ready at the end of the step (R183, log
entry 7). -/
def TransmitterServed (s t : State) : Prop :=
  let before := (chosen s).link
  t.link = (chosen { t with link := { t.link with
    tx := before.tx, txd := before.txd, runCount := before.runCount } }).link

/-- The line's own state: rate, receiver, timers, link state and the awaited reset. -/
def SameLine (s t : State) : Prop :=
  t.link.rate = s.link.rate ∧ t.link.receiver = s.link.receiver ∧ t.link.resend = s.link.resend
  ∧ t.link.connected = s.link.connected ∧ t.link.silence = s.link.silence
  ∧ t.link.awaitsReset = s.link.awaitsReset

/-- The receive queue, the reply queue and the retry memory. -/
def SameQueues (s t : State) : Prop :=
  t.link.rxQueue = s.link.rxQueue ∧ t.link.replies = s.link.replies ∧ t.link.retry = s.link.retry

/-- The report queue with its counters is that of a link. -/
def ReportsOf (l : Link) (t : State) : Prop :=
  t.link.reports = l.reports ∧ t.link.nextSeq = l.nextSeq ∧ t.link.lost = l.lost

/-- The report queue with its counters. -/
def SameReports (s t : State) : Prop := ReportsOf s.link t

/-- The report queue is as after the submission of these reports in their order (R184). -/
def Submitted (s t : State) (rs : List Report) : Prop := ReportsOf (rs.foldl Link.submit s.link) t

/-- The process side but for the zones, the program store and the device record. -/
def SamePlant (s t : State) : Prop :=
  t.sensors = s.sensors ∧ t.scan = s.scan ∧ t.stop = s.stop ∧ t.modulator = s.modulator

/-- Everything but the link is as it was. -/
def SameButLink (s t : State) : Prop :=
  t.store = s.store ∧ t.zones = s.zones ∧ t.device = s.device ∧ SamePlant s t ∧ t.pending = s.pending

/-- Of all but the link, the program store alone may have changed. -/
def SameButStore (s t : State) : Prop :=
  t.zones = s.zones ∧ t.device = s.device ∧ SamePlant s t ∧ t.pending = s.pending

/-- Of all but the link and the program store, one zone alone may have changed, and it has become `x`. -/
def ZoneBecomes (s t : State) (z : ZoneId) (x : Zone) : Prop :=
  t.zone z = x ∧ (∀ y, y ≠ z → t.zone y = s.zone y) ∧ t.device = s.device ∧ SamePlant s t
  ∧ t.pending = s.pending

/-- A zone has released the program it held, if any: the slot's use count has fallen by one, and the rest of the
store is as it was (R18). -/
def Released (s t : State) (held : Option SlotId) : Prop :=
  t.store.free = s.store.free
  ∧ ∀ k, t.slot k =
      if held = some k then { s.slot k with useCount := (s.slot k).useCount - 1 } else s.slot k

/-- An executed frame is answered with a payload; the line is as it was and the transmitter is served. -/
def Answered (s t : State) (f : WireFrame) (payload : List Byte) : Prop :=
  Replied s t f payload ∧ SameLine s t ∧ TransmitterServed s t

/-- The command is answered with a payload and changes nothing else: no report is submitted, and every block is as
it was. -/
def OnlyAnswers (c : Instr) (s : State) (f : WireFrame) (payload : List Byte) : Prop :=
  ∃ t, exec c s = .next t ∧ Answered s t f payload ∧ SameReports s t ∧ SameButLink s t

/-! ## Zone requests -/

/-- The sensor's status is VALID or SUSPECT (R47). -/
def Usable (s : State) (i : SensorId) : Prop := (s.sensor i).status = .valid ∨ (s.sensor i).status = .suspect

/-- The ZONE_STATE report of a zone that has come from a state, if the zone selects it (R48). -/
def stateReports (z : ZoneId) (x : Zone) (old : ZoneState) (why : StateReason) : List Report :=
  if x.live.reports.zoneState then [.zoneState z old x.zr.state why x.zr.causes] else []

/-- A zone request is answered, and makes of its zone a new one with these reports; the program store is as it
was. -/
def ZoneAnswers (c : Instr) (s : State) (f : WireFrame) (payload : List Byte) (z : ZoneId) (x : Zone)
    (reports : List Report) : Prop :=
  ∃ t, exec c s = .next t ∧ Answered s t f payload ∧ ZoneBecomes s t z x ∧ t.store = s.store
    ∧ Submitted s t reports

/-- The program contains a RAMP, a SOAK or a STEP (R50). -/
def NeedsFeedback (segs : List Seg) : Prop :=
  ∃ g ∈ segs, g.kind = some .ramp ∨ g.kind = some .soak ∨ g.kind = some .step

/-- The program may start on the zone as far as its live feedback sensor goes (R50, rows 5 and 6). -/
def FeedbackReady (s : State) (z : ZoneId) (k : SlotId) : Prop :=
  (NeedsFeedback (s.slot k).segs → (s.zone z).live.feedback ≠ none)
  ∧ ∀ i, (s.zone z).live.feedback = some i → Usable s i

/-- The feedback sensor is present and not usable (R47). -/
def FeedbackBroken (s : State) (z : ZoneId) : Prop := ∃ i, (s.zone z).live.feedback = some i ∧ ¬Usable s i

/-- The entry's condition persists: its sensor is FAILED, or its last scaled reading is outside its limits (R122). -/
def Persists (s : State) (g : GuardEntry) : Prop :=
  (s.sensor g.sensor).status = .failed
  ∨ ∃ r, (s.sensor g.sensor).lastScaled = some r ∧ (g.high < r ∨ ∃ l, g.low = some l ∧ r < l)

/-- The unsigned three-byte number at a payload position. -/
def nat24 (p : List Byte) (i : Nat) : Nat := nat8 p i * 65536 + nat16 p (i + 1)

/-- A quantity in the range of pu: two bytes signed. -/
def InPu (x : Int) : Prop := -32768 ≤ x ∧ x ≤ 32767

/-! ## Staging and sensor requests -/

/-- A parameter record within the ranges of R160 and R110. -/
def ParamsInRange (p : Params) : Prop :=
  p.kp ≤ 4095 ∧ p.ki ≤ 4095 ∧ p.floor ≤ 4096 ∧ p.ceiling ≤ 4096
  ∧ (∀ n, p.slew = some n → 1 ≤ n ∧ n ≤ 4096) ∧ p.fallback ≤ 4096 ∧ p.phase ≤ 255 ∧ p.frameOffset ≤ 15
  ∧ p.weight ≤ 255 ∧ p.reserve ≤ 4096 ∧ p.guards.length ≤ 2
  ∧ ∀ g ∈ p.guards, InPu g.high ∧ (∀ l, g.low = some l → InPu l) ∧ 1 ≤ g.qualify ∧ g.qualify ≤ 15

/-- The restricted fields of two records differ (R160, R164). -/
def RestrictedDiffer (a b : Params) : Prop :=
  a.feedback ≠ b.feedback ∨ a.guards ≠ b.guards ∨ a.frameOffset ≠ b.frameOffset ∨ a.polarity ≠ b.polarity

/-- A commit that changes the budget is pending on the device. -/
def BudgetPending (s : State) : Prop := s.device.pending = true ∧ s.device.staged.budget ≠ s.device.live.budget

/-- The first reserve check of a ZONE_COMMIT (R156): the sum of weight times reserve stays within the budget, with
staged values for the requesting zone and for zones with a pending commit; while a changed budget is pending, the
smaller budget and the larger of live and staged values. -/
def ReservesFit (s : State) (z : ZoneId) : Prop :=
  (¬BudgetPending s →
    (allZones.map (fun y => if y = z ∨ (s.zone y).pending = true
        then (s.zone y).staged.weight * (s.zone y).staged.reserve
        else (s.zone y).live.weight * (s.zone y).live.reserve)).sum ≤ s.device.live.budget * 4096)
  ∧ (BudgetPending s →
    (allZones.map (fun y => if y = z ∨ (s.zone y).pending = true
        then max ((s.zone y).live.weight * (s.zone y).live.reserve) ((s.zone y).staged.weight * (s.zone y).staged.reserve)
        else (s.zone y).live.weight * (s.zone y).live.reserve)).sum
      ≤ min s.device.live.budget s.device.staged.budget * 4096)

/-- The second reserve check (R156): while the governor is on, the counted reserves, with the requesting zone's at the
larger of live and staged, and the shared holdings stay within the live budget (log entry 23). -/
def PoolHasRoom (s : State) (z : ZoneId) : Prop :=
  s.device.live.governor = true →
    (allZones.map (fun y => if y = z ∨ (s.zone y).pending = true
        then max ((s.zone y).live.weight * (s.zone y).live.reserve) ((s.zone y).staged.weight * (s.zone y).staged.reserve)
        else (s.zone y).live.weight * (s.zone y).live.reserve)).sum
      + (allZones.map (fun y => (s.zone y).share.holding)).sum ≤ s.device.live.budget * 4096

/-- An active zone uses the sensor as live feedback sensor or in a live guard entry (R91). -/
def InUse (s : State) (i : SensorId) : Prop :=
  ∃ z, (s.zone z).zr.state.isActive = true
    ∧ ((s.zone z).live.feedback = some i ∨ ∃ g ∈ (s.zone z).live.guards, g.sensor = i)

/-! ## Programs -/

/-- A present duration is in its range, and a present band is (01_program_store.md, Segment records). -/
def PresentInRange (g : Seg) : Prop :=
  (∀ d, g.duration? = some d → 1 ≤ d ∧ d ≤ 1048575) ∧ (∀ b, g.band? = some b → 1 ≤ b ∧ b ≤ 32767)

/-- Every field that a segment's kind requires is present, and every one it uses is in its range (R3, R10, R203). -/
def SoundSegment (g : Seg) : Prop :=
  match g.kind with
  | some .ramp | some .soak => g.duration?.isSome = true ∧ PresentInRange g
  | some .step => PresentInRange g
  | some .drive => (∃ d, g.duration? = some d ∧ 1 ≤ d ∧ d ≤ 1048575) ∧ g.number ≤ 4096
  | some .rep => 2 ≤ g.number ∧ g.number ≤ 255
  | some .mark => g.number ≤ 255
  | some .again | some .fin => True
  | none => False

/-- The number of segments of a kind. -/
def kindCount (k : SegKind) (segs : List Seg) : Nat := segs.countP (fun g => decide (g.kind = some k))

/-- The properties of a sealed program (R13). -/
def SoundProgram (segs : List Seg) : Prop :=
  segs ≠ []
  ∧ (∀ i g, segs[i]? = some g → SoundSegment g ∧ (g.kind = some .fin ↔ i + 1 = segs.length))
  ∧ (∀ n, n ≤ segs.length →
      kindCount .again (segs.take n) ≤ kindCount .rep (segs.take n)
      ∧ kindCount .rep (segs.take n) ≤ kindCount .again (segs.take n) + 3)
  ∧ kindCount .rep segs = kindCount .again segs
  ∧ ∀ i a b, segs[i]? = some a → segs[i + 1]? = some b → ¬(a.kind = some .rep ∧ b.kind = some .again)

/-- A RAMP, SOAK or DRIVE without its duration (R3, R10). -/
def LacksDuration (g : Seg) : Prop :=
  (g.kind = some .ramp ∨ g.kind = some .soak ∨ g.kind = some .drive) ∧ g.duration? = none

/-- The indices of the REPEATs that are open before an index, innermost last (R11). -/
def opensBefore (segs : List Seg) : Nat → List Nat
  | 0 => []
  | n + 1 =>
    match segs[n]?.bind Seg.kind with
    | some .rep => opensBefore segs n ++ [n]
    | some .again => (opensBefore segs n).dropLast
    | _ => opensBefore segs n

/-- The segment at an index fails its field checks, or passes them and fails its structure check, with this reason
(R10, R11). -/
def SegmentFails (segs : List Seg) (i : Nat) (reason : SealReason) : Prop :=
  ∃ g, segs[i]? = some g ∧
    ((¬SoundSegment g ∧ (LacksDuration g → reason = .missingField) ∧ (¬LacksDuration g → reason = .fieldRange))
    ∨ (SoundSegment g ∧
      ((g.kind = some .fin ∧ i + 1 < segs.length ∧ reason = .endNotLast)
      ∨ (g.kind = some .rep ∧ 3 ≤ (opensBefore segs i).length ∧ reason = .loopTooDeep)
      ∨ (g.kind = some .again ∧ opensBefore segs i = [] ∧ reason = .againWithoutRepeat)
      ∨ (g.kind = some .again ∧ (∃ outer j, opensBefore segs i = outer ++ [j] ∧ j + 1 = i) ∧ reason = .emptyLoop))))

/-- The program as a whole fails, every one of its segments having passed its checks (R12). -/
def EndFails (segs : List Seg) (r : SealResult) : Prop :=
  (segs = [] ∧ r = ⟨.emptyProgram, 0⟩)
  ∨ ∃ init last, segs = init ++ [last]
    ∧ ((last.kind ≠ some .fin ∧ r = ⟨.noEnd, init.length⟩)
      ∨ (last.kind = some .fin
        ∧ ∃ outer i, opensBefore segs segs.length = outer ++ [i] ∧ r = ⟨.repeatUnclosed, i⟩))

/-- The first failure of a program (R9 to R12): of the first segment that fails, or, where none fails, of its end. -/
def FirstFault (segs : List Seg) (r : SealResult) : Prop :=
  (SegmentFails segs r.index r.reason ∧ ∀ j reason, j < r.index → ¬SegmentFails segs j reason)
  ∨ ((∀ j reason, ¬SegmentFails segs j reason) ∧ EndFails segs r)

/-! ## Trips -/

/-- The trip record of a zone as it stands before the trip (R116). -/
def recordOf (x : Zone) (cause : TripCause) (guard : Option TripGuard) : TripRec :=
  { cause := cause
    guard := guard
    place := x.zr.active.map (fun k => { program := k, segIndex := x.zr.seg })
    before := x.zr.state
    repeats := 0 }

/-- An active zone after a trip: TRIPPED, cause set and program gone, output cut, holding returned, counters 0
(R69, R117, R140, R153). -/
def trippedFrom (x : Zone) (cause : TripCause) (guard : Option TripGuard) : Zone :=
  { x with
    zr := { x.zr with state := .tripped, causes := .none, steps := 0, skip := false, active := none }
    trip := some (recordOf x cause guard)
    exc := ⟨0, 0⟩
    share := { x.share with holding := 0 }
    frame := { x.frame with duty := 0, coarse := 0, fine := 0 }
    pin := decide (x.live.polarity = .activeLow) }

/-- A TRIPPED zone that a further trip cause reaches (R118). -/
def trippedAgain (x : Zone) : Zone :=
  { x with trip := x.trip.map (fun t => { t with repeats := min 255 (t.repeats + 1) }) }

/-- A zone that a trip cause has reached: an IDLE zone is as it was, a TRIPPED one counts, an active one is
TRIPPED (R117, R118). -/
def tripOf (x : Zone) (cause : TripCause) (guard : Option TripGuard) : Zone :=
  match x.zr.state with
  | .idle => x
  | .tripped => trippedAgain x
  | .running | .stepping | .held | .keeping => trippedFrom x cause guard

/-- Every zone as a cause that reaches all twelve leaves it (R121, R125). -/
def TrippedAll (s t : State) (cause : TripCause) : Prop := ∀ z, t.zone z = tripOf (s.zone z) cause none

/-- The TRIP reports of a cause that reaches every zone, in zone number order (R121, R125). -/
def tripReports (s : State) (cause : TripCause) : List Report :=
  (allZones.filter (fun z => (s.zone z).zr.state.isActive)).map
    (fun z => .trip z (recordOf (s.zone z) cause none))

/-- Each slot's use count has fallen by the number of active zones that held its program, and the rest of the store
is as it was (R18). -/
def ReleasedAll (s t : State) : Prop :=
  t.store.free = s.store.free
  ∧ ∀ k, t.slot k = { s.slot k with
      useCount := (s.slot k).useCount
        - allZones.countP (fun z => (s.zone z).zr.state.isActive && decide ((s.zone z).zr.active = some k)) }

/-! ## The link -/

/-- A LINK_ERROR report whose first transmission has not begun (R178). -/
def UnsentError (l : Link) (q : Queued) : Prop :=
  (∃ n, q.report = .linkError n) ∧ q.st = .fresh ∧ ∀ f w, l.tx = .report f w → f.seq ≠ q.seq

/-- The counts after a frame is lost for a cause (R178). -/
def countedOnce (n : LossCounts) : LossCause → LossCounts
  | .gap => { n with gap := min 255 (n.gap + 1) }
  | .length => { n with length := min 255 (n.length + 1) }
  | .crc => { n with crc := min 255 (n.crc + 1) }
  | .overrun => { n with overrun := min 255 (n.overrun + 1) }

/-- The report queue offers this report as the eligible one (R187 with acknowledgement off, R188 with it on). -/
def Offered (l : Link) (ack : Bool) (q : Queued) : Prop :=
  if ack then
    (∃ older newer, l.reports = older ++ q :: newer ∧ q.st = .due ∧ ∀ x ∈ older, x.st ≠ .due)
    ∨ ((∀ x ∈ l.reports, x.st ≠ .due) ∧ l.reports.countP (fun x => decide (x.st ≠ .fresh)) < 8
      ∧ ∃ older newer, l.reports = older ++ q :: newer ∧ q.st = .fresh ∧ ∀ x ∈ older, x.st ≠ .fresh)
  else ∃ newer, l.reports = q :: newer

/-- A lost frame is counted, in the link as a transmitter found IDLE has chosen, and nothing else moves but the receiver,
which is HUNTING, and an IDLE transmitter (R176, R178, R183). -/
def LosesFrame (c : Instr) (s : State) (cause : LossCause) : Prop :=
  ∃ t, exec c s = .next t ∧ t.link.receiver = .hunting ∧ ReportsOf ((chosen s).link.countLoss cause) t
    ∧ SameQueues s t ∧ t.link.rate = s.link.rate ∧ t.link.awaitsReset = s.link.awaitsReset
    ∧ t.link.resend = s.link.resend ∧ t.link.connected = s.link.connected ∧ t.link.silence = s.link.silence
    ∧ TransmitterServed s t ∧ SameButLink s t

/-- A zone that the silence timer's expiry has reached (R62). -/
def linkHeld (x : Zone) : Zone :=
  match x.zr.state with
  | .running | .stepping =>
    { x with zr := { x.zr with state := .held, causes := ⟨false, false, false, false, true, false⟩,
                               target := .running, steps := 0 } }
  | .keeping =>
    { x with zr := { x.zr with state := .held, causes := ⟨false, false, false, false, true, false⟩,
                               target := .keeping, steps := 0 } }
  | .held => { x with zr := { x.zr with causes := { x.zr.causes with link := true } } }
  | .idle | .tripped => x

/-- The report of a zone that the expiry reaches: one when its state or cause set changes (R62). -/
def linkReports (z : ZoneId) (x : Zone) : List Report :=
  if (linkHeld x).zr.state = x.zr.state ∧ (linkHeld x).zr.causes = x.zr.causes then []
  else stateReports z (linkHeld x) x.zr.state .link

/-- The part after these bytes have been received in turn. -/
def feed : List Byte → State → Host.Outcome State Fault Refusal
  | [], s => .next s
  | b :: bs, s =>
    match exec (.receivedByte b) s with
    | .next t => feed bs t
    | o => o

/-- The code of a value of a set that R202 numbers on from a first code, in its order. -/
def codeIn {α : Type} [DecidableEq α] (first : Nat) (values : List α) (x : α) : Byte :=
  BitVec.ofNat 8 (first + values.idxOf x)

def zoneStateCode : ZoneState → Byte := codeIn 0 [.idle, .running, .stepping, .held, .keeping, .tripped]

def reasonCode : StateReason → Byte :=
  codeIn 1 [.start, .pause, .brk, .sensor, .link, .settle, .stepDone, .step, .resume, .fin, .abort, .clearTrip]

def kindCode : SegKind → Byte := codeIn 1 [.ramp, .soak, .step, .drive, .rep, .again, .mark, .fin]

def tripCauseCode : TripCause → Byte :=
  codeIn 1 [.guardHigh, .guardLow, .guardSensor, .hostZone, .hostAll, .stopInput]

def outcomeCode : SettleOutcome → Byte := codeIn 1 [.settled, .timeoutContinue, .timeoutHold, .released, .skipped]

def sensorStatusCode : SensorStatus → Byte := codeIn 0 [.unscanned, .waiting, .valid, .suspect, .failed]

/-- Eight flags as a byte, bit 0 first. -/
def bits (b0 b1 b2 b3 b4 b5 b6 b7 : Bool) : Byte := BitVec.ofBoolListLE [b0, b1, b2, b3, b4, b5, b6, b7]

/-- A hold cause set, one bit each (R202). -/
def causeBits (c : Causes) : Byte := bits c.host c.brk c.step c.sensor c.link c.settle false false

/-- The numeric codes of the values that replies and parameter forms carry (R202). -/
def CodesOfTheTable : Prop :=
  (∀ x, ZoneState.code x = zoneStateCode x)
  ∧ (∀ x, SlotState.code x = codeIn 8 [.empty, .opened, .sealed] x)
  ∧ (∀ x, Causes.code x = causeBits x)
  ∧ (∀ x, SealReason.code x = codeIn 1 [.emptyProgram, .fieldRange, .missingField, .endNotLast, .noEnd, .loopTooDeep,
      .againWithoutRepeat, .repeatUnclosed, .emptyLoop] x)
  ∧ (∀ x, TripCause.code x = tripCauseCode x)
  ∧ (∀ x, SensorStatus.code x = sensorStatusCode x)
  ∧ (∀ x, ReadingClass.code x = codeIn 0 [.none, .valid, .opened, .short] x)
  ∧ (∀ x, Selection.code x = bits x.zoneState x.segment x.mark x.settle false false false false)
  ∧ (∀ x, HoldAction.code x = codeIn 0 [.fallback, .regulate] x)
  ∧ ∀ x, Polarity.code x = codeIn 0 [.activeHigh, .activeLow] x

/-- The ten bytes of a trip record (R210). -/
def tripForm (t : TripRec) : List Byte :=
  let reading : Option Int := match t.guard with
    | some g => g.reading
    | none => none
  [tripCauseCode t.cause, bits t.guard.isSome reading.isSome t.place.isSome false false false false false]
  ++ (match t.guard with
    | some g => [BitVec.ofNat 8 g.entry, BitVec.ofNat 8 g.sensor.val]
    | none => [0, 0])
  ++ (match reading with
    | some r => [(BitVec.ofInt 16 r).extractLsb' 8 8, (BitVec.ofInt 16 r).extractLsb' 0 8]
    | none => [0, 0])
  ++ (match t.place with
    | some p => [BitVec.ofNat 8 p.program.val, BitVec.ofNat 8 p.segIndex]
    | none => [0, 0])
  ++ [zoneStateCode t.before, BitVec.ofNat 8 t.repeats]

/-- The KIND and the payload of a report (R213). -/
def reportForm (r : Report) : Byte × List Byte :=
  let zone (z : ZoneId) : Byte := BitVec.ofNat 8 z.val
  let number (n : Nat) : Byte := BitVec.ofNat 8 n
  let flag (b : Bool) : Byte := if b then 1 else 0
  match r with
  | .started c => (0x81, [codeIn 1 [.powerOn, .resetPin, .soft] c])
  | .linkError n => (0x82, [number n.gap, number n.length, number n.crc, number n.overrun])
  | .linkLost t => (0x83, [number t])
  | .linkRestored => (0x84, [])
  | .lost n => (0x85, [(BitVec.ofNat 16 n).extractLsb' 8 8, (BitVec.ofNat 16 n).extractLsb' 0 8])
  | .zoneState z old new why causes =>
    (0x86, [zone z, zoneStateCode old, zoneStateCode new, reasonCode why, causeBits causes])
  | .segment z i k => (0x87, [zone z, number i, kindCode k])
  | .mark z tag brk => (0x88, [zone z, number tag, flag brk])
  | .settle z i o => (0x89, [zone z, number i, outcomeCode o])
  | .trip z t => (0x8A, zone z :: tripForm t)
  | .committed z o =>
    (0x8B, [(match z with
        | some z => zone z
        | none => 0xFF), codeIn 1 [.applied, .cancelled] o])
  | .scanTaken n => (0x8C, [1, number n, 0xFF])
  | .scanWithdrawn n i => (0x8C, [2, number n, number i.val])
  | .sensorState i st => (0x8D, [number i.val, sensorStatusCode st])
  | .budget z trimmed => (0x8E, [zone z, flag trimmed])
  | .stopAsserted n => (0x8F, [1, number n])
  | .stopReleased => (0x8F, [2, 0])

/-- The levels of TXD for a frame (R173, R174): its bytes back to back, each with a start bit low, eight data bits,
least significant first, and a stop bit high. -/
def lineLevels (f : WireFrame) : List Bool :=
  (0xC3 :: (f.body ++ be16 f.crc.toNat)).flatMap (fun b =>
    [false, b.getLsbD 0, b.getLsbD 1, b.getLsbD 2, b.getLsbD 3, b.getLsbD 4, b.getLsbD 5, b.getLsbD 6, b.getLsbD 7, true])

/-- The last byte of the reply to RESTART is on TXD (R195). -/
def SendsRestartReply (s : State) : Prop :=
  (∃ f, s.link.tx = .reply f) ∧ s.link.awaitsReset = true ∧ s.link.replies.length ≤ 1

/-! ## The process -/

/-- A cycle start is due (R130, R146): tick 255 has come, or no cycle has begun since the hard reset. -/
def CycleDue (s : State) : Prop := s.modulator.fresh = true ∨ 255 ≤ s.modulator.tick

/-- Tick `t` of the cycle in progress is active (R135, R136): the window of the cycle's tick count begins at the frame
phase. The tick count is the loaded coarse, and one more where the position stands among the first `fine` of the
spread order. -/
def TickActive (f : FrameRec) (t : Nat) : Prop :=
  let spread := [0, 8, 4, 12, 2, 10, 6, 14, 1, 9, 5, 13, 3, 11, 7, 15]
  f.pos < 16 ∧ ((t : Int) - f.phase) % 256 < (f.coarse + if f.pos ∈ spread.take f.fine then 1 else 0 : Nat)

/-- The pin's level (true is high) for an active tick or not (R137). -/
def PinShows (x : Zone) (t : Nat) : Prop :=
  x.pin = true ↔ (TickActive x.frame t ↔ x.live.polarity = .activeHigh)

/-- A zone with its pending commit applied (R111, R166). -/
def committed (x : Zone) : Zone :=
  if x.pending then
    { x with
      live := x.staged, pending := false, restricted := false
      exc := if x.staged.guards = x.live.guards then x.exc else ⟨0, 0⟩ }
  else x

/-- The device record that is live after a cycle start (R171). -/
def nextDevice (s : State) : DeviceRec := if s.device.pending then s.device.staged else s.device.live

/-- The cycle counter after a cycle start (R131). -/
def counterAfter (s : State) : Nat :=
  if s.modulator.fresh = true ∨ (nextDevice s).cycle ≠ s.device.live.cycle then 0 else (s.modulator.counter + 1) % 16

/-- What the executor's stage of a zone reads at a cycle start: the program it holds, its live record with a pending
commit applied, its feedback sensor, the frame worth of the live cycle length (R45, R47, R54, R166). -/
def envAt (s : State) (z : ZoneId) : RunEnv :=
  let x := committed (s.zone z)
  { zone := z
    prog := match x.zr.active with
      | some k => (s.slot k).segs
      | none => []
    live := x.live
    usable := match x.live.feedback with
      | some i => decide ((s.sensor i).status = .valid ∨ (s.sensor i).status = .suspect)
      | none => false
    pv := match x.live.feedback with
      | some i => (s.sensor i).filtered
      | none => 0
    worth := match (nextDevice s).cycle with
      | .ms2 => 1
      | .ms8 => 4
      | .ms32 => 16
      | .ms128 => 64 }

/-- The boundary that an event of a cycle start is. -/
def boundaryOf : CycleEvent → Option ZoneId
  | .boundary z => some z
  | .start | .expiry | .hold _ => none

/-- What falls at the instant of a cycle start, in an order: the cycle start and every zone's place in it, alone or with
the expiry of the silence timer and its hold of every zone; the cycle start before the boundaries and the expiry before
its holds, and no more (R62, R131, R132, R171, R192). -/
def CycleOrder (order : List CycleEvent) : Prop :=
  (order.Perm (.start :: allZones.map .boundary)
    ∨ order.Perm ((.start :: allZones.map .boundary) ++ (.expiry :: allZones.map .hold)))
  ∧ (∀ z earlier later, order = earlier ++ .boundary z :: later → .start ∈ earlier)
  ∧ ∀ z earlier later, order = earlier ++ .hold z :: later → .expiry ∈ earlier

/-- The silence timer can expire where the order has its expiry (R191, R192): it runs, and a device commit that changes
the timeout, which restarts or stops it, is not applied before. -/
def CanExpire (s : State) (order : List CycleEvent) : Prop :=
  s.link.silence ≠ none
  ∧ ∀ earlier later, order = earlier ++ .start :: later →
      (s.link.connected = true ∧ (nextDevice s).timeout ≠ s.device.live.timeout) → .expiry ∈ earlier

/-- The expiry reaches the zone before its boundary is taken (R62). -/
def heldFirst (order : List CycleEvent) (z : ZoneId) : Bool :=
  (order.takeWhile (fun e => decide (e ≠ .boundary z))).contains (.hold z)

/-- The zone as its boundary at a cycle start finds it. -/
def foundAt (s : State) (order : List CycleEvent) (z : ZoneId) : Zone :=
  if heldFirst order z then linkHeld (s.zone z) else s.zone z

/-- What the executor's stage of a zone's boundary leaves at a cycle start. -/
def updateAt (s : State) (order : List CycleEvent) (z : ZoneId) : Update :=
  (envAt s z).executorStage (foundAt s order z).zr

/-- The demand of the coming frame at a cycle start. -/
def demandAt (s : State) (order : List CycleEvent) (z : ZoneId) : Demand :=
  demandOf (envAt s z) (s.zone z).ctl (updateAt s order z).regime

/-- The zone as the expiry leaves it at a cycle start, where it reaches the zone after its boundary or its place in the
cycle start. -/
def thenHeld (order : List CycleEvent) (z : ZoneId) (x : Zone) : Zone :=
  if .hold z ∈ order ∧ heldFirst order z = false then linkHeld x else x

/-- The free amount at the governor's stage of a zone's boundary at a cycle start, its own holding returned, where the
zones `before` have had their boundaries earlier in it (R149, R151, R152): the budget less the counted reserves and the
holdings, those of the zones that have been taken as their boundaries left them. It counts as 0 where it would be
negative (log entry 14). -/
def freeAt (s t : State) (before : List ZoneId) (z : ZoneId) : Nat :=
  let wr (p : Params) : Nat := p.weight * p.reserve
  let counted (y : ZoneId) : Nat :=
    if y ∈ before ∨ y = z then wr (committed (s.zone y)).live
    else if (s.zone y).pending then max (wr (s.zone y).live) (wr (s.zone y).staged)
    else wr (s.zone y).live
  let holding (y : ZoneId) : Nat :=
    if y = z then 0 else if y ∈ before then (t.zone y).share.holding else (s.zone y).share.holding
  (nextDevice s).budget * 4096 - (allZones.map counted).sum - (allZones.map holding).sum

/-- What a zone is after its boundary at a cycle start, the zones `before` having had theirs earlier in it: the five
stages in turn (R53, R75, R134, R150 to R152, R166), and the expiry's hold where that comes after them (R62). The pin is
that of the state after. -/
def BoundaryTaken (s t : State) (order : List CycleEvent) (before : List ZoneId) (z : ZoneId) : Prop :=
  let x := committed (s.zone z)
  let d := demandAt s order z
  let governed := (nextDevice s).governor = true ∧ 0 < x.live.weight
  let g := if governed then min d.demand (x.live.reserve + freeAt s t before z / x.live.weight) else d.demand
  t.zone z = thenHeld order z { x with
    zr := (updateAt s order z).zr
    ctl := { acc := d.acc, lastDemand := d.demand, lastGrant := g, trimmedLast := decide (g < d.demand),
             lastRegime := d.kind }
    frame := { duty := g, coarse := g / 16, fine := g % 16, phase := x.live.phase, pos := 0 }
    share := { holding := if governed then x.live.weight * (g - x.live.reserve) else 0,
               trimmed := decide (g < d.demand) }
    pin := (t.zone z).pin }

/-- The reports of a zone's boundary at a cycle start: of the commit applied, of the executor's update, of a changed
trim (R155, R166). -/
def boundaryReports (s t : State) (order : List CycleEvent) (z : ZoneId) : List Report :=
  (if (s.zone z).pending then [.committed (some z) .applied] else [])
  ++ (updateAt s order z).reports
  ++ (if (t.zone z).share.trimmed = (s.zone z).share.trimmed then [] else [.budget z (t.zone z).share.trimmed])

/-- The zone has its boundary at a cycle start (R132). -/
def AtBoundary (s : State) (z : ZoneId) : Prop := (s.zone z).live.frameOffset = counterAfter s

/-- The reports of what falls at a cycle start, thing by thing; the expiry finds a zone as its boundary has left it where
that was taken first (R48, R62, R171, R192). -/
def cycleReports (s t : State) (order : List CycleEvent) : CycleEvent → List Report
  | .start => if s.device.pending then [.committed none .applied] else []
  | .boundary z => if (s.zone z).live.frameOffset = counterAfter s then boundaryReports s t order z else []
  | .expiry => match s.link.silence with
    | some timeout => [.linkLost timeout]
    | none => []
  | .hold z =>
    linkReports z (if (s.zone z).live.frameOffset = counterAfter s ∧ heldFirst order z = false
      then { committed (s.zone z) with zr := (updateAt s order z).zr } else s.zone z)

/-- A link as a new device record leaves it (R191). -/
def relinked (s : State) (l : Link) : Link :=
  let old := s.device.live
  let new := nextDevice s
  { l with
    reports :=
      if old.ack = true ∧ new.ack = false then l.reports.filter (fun q => decide (q.st = .fresh))
      else if old.ack = false ∧ new.ack = true then l.reports.map (fun q => { q with st := .fresh })
      else l.reports
    resend := if old.ack = true ∧ new.ack = false then none else l.resend
    silence :=
      if l.connected = true ∧ old.timeout ≠ new.timeout then
        (if new.timeout = 0 then none else some new.timeout)
      else l.silence }

/-- An entered RAMP, SOAK or DRIVE with its duration, and what the time charge makes of its elapsed time and of the
hold-back flag (R25, R29, R31): with the run mark set a banded RAMP or SOAK is charged unless PV is outside its
band. -/
structure Charged (e : RunEnv) (r : ZoneRec) (g : Seg) (duration elapsed : Nat) (holdBack : Bool) : Prop where
  current : e.prog[r.seg]? = some g
  kind : g.kind = some .ramp ∨ g.kind = some .soak ∨ g.kind = some .drive
  lasts : g.duration? = some duration
  entered : r.entered = true
  usable : g.kind = some .drive ∨ e.usable = true
  unmarked : r.runMark = false → elapsed = r.elapsed ∧ holdBack = r.holdBack
  free : r.runMark = true → g.kind = some .drive ∨ g.band? = none →
    elapsed = r.elapsed + e.worth ∧ holdBack = r.holdBack
  inside : r.runMark = true → g.kind ≠ some .drive → ∀ band, g.band? = some band →
    |e.pv - r.setpoint| ≤ (band : Int) → elapsed = r.elapsed + e.worth ∧ holdBack = false
  outside : r.runMark = true → g.kind ≠ some .drive → ∀ band, g.band? = some band →
    (band : Int) < |e.pv - r.setpoint| → elapsed = r.elapsed ∧ holdBack = true

/-- The boundary performs a run update (R53). -/
def Updates (r : ZoneRec) : Prop := r.state = .running ∨ (r.state = .stepping ∧ 0 < r.steps)

/-- The setpoint of a RAMP (R28): the product is exact and the quotient truncates toward zero. -/
def rampAt (origin target : Int) (elapsed duration : Nat) : Int :=
  origin + ((target - origin) * (min elapsed duration : Nat)).tdiv duration

/-- A raw demand limited (R78): the clamp to floor and ceiling, the slew window around the last grant, the cap at the
ceiling. -/
def limitedTo (p : Params) (lastGrant : Nat) (raw : Int) : Int :=
  let clamped : Int := max p.floor (min p.ceiling raw)
  let slewed : Int := match p.slew with
    | some n => max (lastGrant - n) (min (lastGrant + n) clamped)
    | none => clamped
  min p.ceiling slewed

/-- A zone that holds at its boundary (R47, R54, R57, R58, R60). -/
def heldAs (r : ZoneRec) (c : Cause) (target : Target) : ZoneRec :=
  { r with state := .held, causes := .only c, target := target, steps := 0, runMark := false }

/-- The selected ZONE_STATE report of a zone that its own boundary has moved (R48). -/
def moveReports (e : RunEnv) (old new : ZoneState) (why : StateReason) (causes : Causes) : List Report :=
  if e.live.reports.zoneState then [.zoneState e.zone old new why causes] else []

/-- The regime after a held boundary (R59). -/
def HeldRegime (e : RunEnv) (r : ZoneRec) (regime : Regime) : Prop :=
  (e.live.hold = .fallback → regime = .fallback)
  ∧ (e.live.hold = .regulate →
    (∀ g, e.prog[r.seg]? = some g → r.target = .running → r.entered = true → g.kind = some .drive →
      regime = .opened g.number)
    ∧ ((∀ g, e.prog[r.seg]? = some g → ¬(r.target = .running ∧ r.entered = true ∧ g.kind = some .drive)) →
      regime = if e.usable then .closed r.setpoint else .fallback))

/-- The sensor record that a code of class VALID leaves (R100 to R102). -/
def afterValid (n : Sensor) (code : Nat) : Sensor :=
  let product : Int := (code : Int) * n.gain
  let reading : Int := max (-32767) (min 32767 (product.tdiv 1024 + n.offset))
  let valids := min 15 (n.valids + 1)
  { n with
    lastCode := code, lastClass := .valid, lastScaled := some reading
    filtered := if n.seeded then n.filtered + (reading - n.filtered).tdiv (2 ^ n.shift : Nat) else reading
    seeded := true, invalids := 0, valids := valids
    status := match n.status with
      | .failed => if n.faultCount ≤ valids then .valid else .failed
      | .unscanned => .unscanned
      | .waiting | .valid | .suspect => .valid }

/-- The sensor record that a code of class OPEN or SHORT leaves (R102). -/
def afterInvalid (n : Sensor) (code : Nat) (cls : ReadingClass) : Sensor :=
  let invalids := min 15 (n.invalids + 1)
  { n with
    lastCode := code, lastClass := cls, valids := 0, invalids := invalids
    status := match n.status with
      | .failed => .failed
      | .unscanned => .unscanned
      | .waiting => if n.faultCount ≤ invalids then .failed else .waiting
      | .valid | .suspect => if n.faultCount ≤ invalids then .failed else .suspect }

/-- The class of a code (R99): OPEN is tested first. -/
def classOf (n : Sensor) (code : Nat) : ReadingClass :=
  match n.openAt, n.shortAt with
  | some o, some h => if o ≤ code then .opened else if code ≤ h then .short else .valid
  | some o, none => if o ≤ code then .opened else .valid
  | none, some h => if code ≤ h then .short else .valid
  | none, none => .valid

/-- The sensor record after a completion (R98 to R102). -/
def sensorAfter (n : Sensor) (code : Nat) : Sensor :=
  if classOf n code = .valid then afterValid n code else afterInvalid n code (classOf n code)

/-- The outcome of an offer for one zone: its data and its TRIP report, if any (R112 to R115). -/
def guardOutcome (x : Zone) (z : ZoneId) (i : SensorId) (n : Sensor) (entersFailed : Bool) : Zone × List Report :=
  let tripped (exc : Excursions) (cause : TripCause) (k : Nat) (reading : Option Int) : Zone × List Report :=
    let y : Zone := { x with exc := exc }
    let guard := some { entry := k, sensor := i, reading := reading }
    (tripOf y cause guard, if x.zr.state.isActive then [.trip z (recordOf y cause guard)] else [])
  if x.zr.state = .idle then (x, [])
  else
    match x.live.guards.zipIdx.find? (fun g => decide (g.1.sensor = i)) with
    | none => (x, [])
    | some (g, k) =>
      if n.lastClass = .valid then
        let reading := n.lastScaled.getD 0
        let count := (if k = 0 then x.exc.zero else x.exc.one) + 1
        let counted (m : Nat) : Excursions := if k = 0 then { x.exc with zero := m } else { x.exc with one := m }
        if g.high < reading then
          if g.qualify ≤ count then tripped (counted 0) .guardHigh k (some reading)
          else ({ x with exc := counted count }, [])
        else if g.low.any (fun l => decide (reading < l)) then
          if g.qualify ≤ count then tripped (counted 0) .guardLow k (some reading)
          else ({ x with exc := counted count }, [])
        else ({ x with exc := counted 0 }, [])
      else if entersFailed then tripped x.exc .guardSensor k n.lastScaled
      else (x, [])

/-! ## Invariants -/

/-- The free count and the lengths of all programs add up to the pool, and no program is longer than 255 (R1, R4). -/
def PoolConserved (s : State) : Prop :=
  s.store.free + ((List.finRange 16).map (fun k => (s.slot k).segs.length)).sum = Config.poolSize
  ∧ ∀ k, (s.slot k).segs.length ≤ Config.maxProgram

/-- Each slot's use count is the number of zones that hold its program, a zone holds one exactly in the states
that R17 names, and a program in use is SEALED (R17, R46). -/
def UseCountsAgree (s : State) : Prop :=
  (∀ k, (s.slot k).useCount = allZones.countP (fun z => decide ((s.zone z).zr.active = some k)))
  ∧ (∀ z, (s.zone z).zr.active.isSome = (s.zone z).zr.holdsProgram)
  ∧ (∀ k, 0 < (s.slot k).useCount → (s.slot k).state = .sealed)

/-- A HELD zone has a non-empty cause set, and any other zone an empty one (R47). -/
def CausesExactlyWhenHeld (s : State) : Prop :=
  ∀ z, (s.zone z).zr.state = .held ↔ (s.zone z).zr.causes.isEmpty = false

/-- A zone in TRIPPED has a trip record, and a zone in any other state has none (R116). -/
def RecordsExactlyWhenTripped (s : State) : Prop :=
  ∀ z, (s.zone z).zr.state = .tripped ↔ (s.zone z).trip.isSome = true

/-- The queues of the link keep their places (R179, R184). -/
def QueuesBounded (s : State) : Prop :=
  s.link.rxQueue.length ≤ 4 ∧ s.link.replies.length ≤ 4 ∧ s.link.reports.length ≤ 32
  ∧ s.link.reports.countP (fun q => !q.report.priority) ≤ 28

/-- While the STOP input is asserted no zone is active (R125). -/
def NoneActiveWhileStopped (s : State) : Prop :=
  s.stop.asserted = true → ∀ z, (s.zone z).zr.state.isActive = false

/-- The output of an IDLE or TRIPPED zone is at the inactive level for its live polarity and its loaded duty is 0
(R137). -/
def OutputsOffWhenInactive (s : State) : Prop :=
  ∀ z, (s.zone z).zr.state.isActive = false →
    (s.zone z).pin = level (s.zone z).live.polarity false
    ∧ (s.zone z).frame.duty = 0 ∧ (s.zone z).frame.coarse = 0 ∧ (s.zone z).frame.fine = 0

/-- The restricted mark stands only with the pending mark and only on an IDLE zone (R160, R166). -/
def RestrictedOnlyIdle (s : State) : Prop :=
  ∀ z, (s.zone z).restricted = true → (s.zone z).pending = true ∧ (s.zone z).zr.state = .idle

/-- A record that may be live: floor at or below ceiling, guard entries on distinct sensors (R161). -/
def SoundRecord (p : Params) : Prop := p.floor ≤ p.ceiling ∧ sameGuardSensor p.guards = false

/-- Every live record is sound, and every staged record with a pending commit is (R161). -/
def LiveRecordsSound (s : State) : Prop :=
  ∀ z, SoundRecord (s.zone z).live ∧ ((s.zone z).pending = true → SoundRecord (s.zone z).staged)

/-- The converter is IDLE exactly when the live list is empty, its entry is one of the list, and a sensor is
UNSCANNED exactly when it is unlisted (R88, R89). -/
def ScanConsistent (s : State) : Prop :=
  (s.scan.converting = none ↔ s.scan.live = [])
  ∧ (∀ k, s.scan.converting = some k → k < s.scan.live.length)
  ∧ (∀ i, (s.sensor i).status = .unscanned ↔ i ∉ s.scan.live)

/-- The governor's trimmed flag and the control law unit's agree (R150). -/
def TrimFlagsAgree (s : State) : Prop := ∀ z, (s.zone z).share.trimmed = (s.zone z).ctl.trimmedLast

/-- The silence timer is stopped while the link is LOST (R192). -/
def SilenceStoppedWhenLost (s : State) : Prop := s.link.connected = false → s.link.silence = none

/-- The number of reports that are NEW (R188). -/
def newCount (l : Link) : Nat := l.reports.countP (fun q => decide (q.st = .fresh))

/-- The number of reports that are SENT or DUE (R188). -/
def waitingCount (l : Link) : Nat := l.reports.countP (fun q => decide (q.st ≠ .fresh))

/-- The window (R184, R186, R188): the reports carry successive numbers up to the last one given; those that are SENT or
DUE stand before the NEW ones and are at most 8; with acknowledgement off there are none. A report in transmission is the
oldest NEW one, whose place in the window is free, or is older than the NEW ones by at most 8. -/
def WindowKept (s : State) : Prop :=
  let l := s.link
  (∀ older q newer, l.reports = older ++ q :: newer → q.seq = l.nextSeq - BitVec.ofNat 8 (newer.length + 1))
  ∧ (∀ older q newer, l.reports = older ++ q :: newer → q.st = .fresh → ∀ x ∈ newer, x.st = .fresh)
  ∧ waitingCount l ≤ 8
  ∧ (s.device.live.ack = false → waitingCount l = 0)
  ∧ ∀ f w, l.tx = .report f w →
      let age := (l.nextSeq - f.seq).toNat
      1 ≤ age ∧ newCount l ≤ age ∧ age ≤ newCount l + 8 ∧ (age = newCount l → waitingCount l < 8)

/-- TXD follows the transmitter (R173): the levels of the frame in transmission, and high while IDLE. -/
def TxdFollows (s : State) : Prop :=
  (s.link.tx = .idle → s.link.txd = [])
  ∧ (∀ f, s.link.tx = .reply f → s.link.txd = lineLevels f)
  ∧ ∀ f w, s.link.tx = .report f w → s.link.txd = lineLevels f

/-- The cycle counter and the tick in progress keep their ranges, and no tick comes before the first cycle start (R130,
R131, R146). -/
def CycleInRange (s : State) : Prop :=
  s.modulator.counter ≤ 15 ∧ s.modulator.tick ≤ 255 ∧ (s.modulator.fresh = true → s.modulator.tick = 0)

end Sys2Proof.Machine
end

