-- ==== Sys2Proof/Certificates/Slice0/Obligations.lean ====
section
/-! DEFINITION. The statements for the provers, in the order of OBLIGATIONS.json. -/

open Sys2Proof Sys2Proof.Machine

/-! ## The machine -/

/-- The command at the front of the queue is the one a step carries out, with the queue's rest. -/
def Obligations.StepRunsTheFrontCommand : Prop :=
  ∀ (c : Instr) (s : State), step { s with pending := c :: s.pending } = exec c s

/-- No command stops the machine, none touches the queue of waiting commands, and with an empty queue nothing changes
but that an IDLE transmitter chooses, as R183 says (that the part then does no more is the model's choice, log entry
1). -/
def Obligations.StepAlwaysAnswers : Prop :=
  (∀ (c : Instr) (s : State), ∃ t, exec c s = .next t ∧ t.pending = s.pending)
  ∧ ∀ s : State, s.pending = [] → step s = .next (chosen s)

/-! ## The executor -/

/-- A frame that the executor does not take changes nothing, whatever its command (the guard is R179's; that the
command then changes nothing is the model's choice, log entry 3). A transmitter found IDLE has first made its choice
(R183). -/
def Obligations.WaitingFrameChangesNothing : Prop :=
  ∀ (c : Instr) (s : State) (f : WireFrame),
    requestFrame c = some f → s.canTake f = false → exec c s = .next (chosen s)

/-- R180, Match: a frame taken that equals the remembered request in SEQ and CRC is answered with the remembered reply
as a repeat, and no block, report or memory moves. It holds for RETRY and for every request row; an UNKNOWN_KIND
command stands for no request kind. -/
def Obligations.RetryIsAnsweredByTheRepeat : Prop :=
  ∀ (c : Instr) (s : State) (f : WireFrame) (m : RetryMemory),
    requestFrame c = some f → (∀ q k p, c = .unknownKind q k p → isRequestKind k = false) →
    s.canTake f = true → s.link.retry = some m → m.seq = f.seq → m.crc = f.crc →
    ∃ t, exec c s = .next t
      ∧ t.link.rxQueue = s.link.rxQueue.tail
      ∧ t.link.replies = s.link.replies ++ [{ m.reply with kind := m.reply.kind ||| 0x40 }]
      ∧ t.link.retry = some m
      ∧ SameLine s t ∧ SameReports s t ∧ TransmitterServed s t ∧ SameButLink s t

/-- R181: a KIND that is none of the 31 request kinds is answered with UNKNOWN_KIND, and a payload length that the
kind does not allow with BAD_LENGTH, before any block sees the request. R5, R49, R106, R107: a request of an allowed
length that names a slot above 15, a zone above 11 or a sensor above 15 is refused with BAD_VALUE and the field's
code, before anything else is judged. -/
def Obligations.FormatAndNumbersAreCheckedFirst : Prop :=
  ((∀ (s : State) (q k : Byte) (p : List Byte), Executes s ⟨q, k, p⟩ →
     (k = 0 ∨ 0x1F < k.toNat) → OnlyAnswers (.unknownKind q k p) s ⟨q, k, p⟩ [0x10])
   ∧ ∀ (c : Instr) (s : State) (f : WireFrame), requestFrame c = some f → Executes s f →
       lengthAllowed c = false → OnlyAnswers c s f [0x11])
  ∧ (∀ (c : Instr) (s : State) (f : WireFrame) (field : Byte),
       requestFrame c = some f → Executes s f → lengthAllowed c = true → numberRefused c = some field →
       OnlyAnswers c s f [0x12, field])

/-! ## Device requests -/

/-- R205, R206: PING echoes its payload and IDENTIFY gives the part's identity with the free count; neither changes
anything else. -/
def Obligations.PingAndIdentifyOnlyAnswer : Prop :=
  (∀ (s : State) (q : Byte) (p : List Byte), Executes s ⟨q, 0x01, p⟩ → p.length ≤ 119 →
    OnlyAnswers (.ping q p) s ⟨q, 0x01, p⟩ (0x00 :: p))
  ∧ ∀ (s : State) (q : Byte), Executes s ⟨q, 0x02, []⟩ →
      OnlyAnswers (.identify q []) s ⟨q, 0x02, []⟩
        ([0x00, 0x4F, 0x57, 0x04, 0xC0, 3, 12, 16, 24, 0x01, 0x80, 16] ++ be16 s.store.free)

/-- R195: RESTART is answered with OK and the part then awaits its reset. A part that awaits its reset takes no frame,
and every command leaves it so but a hard reset and the two commands that name the moment at which the last byte of
the RESTART reply leaves TXD, which is the soft reset (the second, FRAME_SENT, by log entry 12). -/
def Obligations.RestartAwaitsItsReset : Prop :=
  (∀ (s : State) (q : Byte), Executes s ⟨q, 0x03, []⟩ →
    ∃ t, exec (.restart q []) s = .next t
      ∧ Replied s t ⟨q, 0x03, []⟩ [0x00] ∧ t.link.awaitsReset = true
      ∧ t.link.rate = s.link.rate ∧ t.link.receiver = s.link.receiver ∧ t.link.resend = s.link.resend
      ∧ t.link.connected = s.link.connected ∧ t.link.silence = s.link.silence
      ∧ TransmitterServed s t ∧ SameReports s t ∧ SameButLink s t)
  ∧ (∀ (s : State) (f : WireFrame), s.link.awaitsReset = true → s.canTake f = false)
  ∧ ∀ (s t : State) (c : Instr), s.link.awaitsReset = true → exec c s = .next t →
      t.link.awaitsReset = true
      ∨ (∃ cause baud1 baud0, c = .hardReset cause baud1 baud0)
      ∨ (SendsRestartReply (chosen s) ∧ (c = .softReset ∨ c = .frameSent))

/-- R121: ALL_STOP trips the active zones, counts on the TRIPPED ones and leaves the IDLE ones; its reply gives the
number that entered TRIPPED, and the TRIP reports are submitted in zone number order. That an IDLE transmitter chooses
between its reply and its report, both ready, is the model's choice (log entry 7). -/
def Obligations.AllStopTripsEveryActiveZone : Prop :=
  ∀ (s : State) (q : Byte), Executes s ⟨q, 0x04, []⟩ →
    ∃ t, exec (.allStop q []) s = .next t
      ∧ Answered s t ⟨q, 0x04, []⟩
          [0x00, byte (allZones.countP (fun z => (s.zone z).zr.state.isActive))]
      ∧ TrippedAll s t .hostAll ∧ ReleasedAll s t ∧ Submitted s t (tripReports s .hostAll)
      ∧ t.device = s.device ∧ SamePlant s t ∧ t.pending = s.pending

/-- R189: an acknowledgement of a SENT or DUE report removes it and every older one and restarts or stops the resend
timer; any other number changes nothing. The reply gives the oldest report still SENT or DUE, and the window count.
R183: the transmitter goes on with its frame, and one that is IDLE chooses; that the reply and a report that the
acknowledgement makes eligible are then ready together is the model's choice (log entry 7). -/
def Obligations.AckReportsRemovesTheAcknowledged : Prop :=
  ∀ (s : State) (q n : Byte), Executes s ⟨q, 0x05, [n]⟩ →
    ∃ t, exec (.ackReports q [n]) s = .next t
      ∧ Replied s t ⟨q, 0x05, [n]⟩
          (match t.link.reports.find? (fun r => decide (r.st ≠ .fresh)) with
            | some r => [0x00, 1, r.seq, byte t.link.windowCount]
            | none => [0x00, 0, 0, byte t.link.windowCount])
      ∧ (∀ older r newer, s.device.live.ack = true → s.link.reports = older ++ r :: newer →
          r.seq = n → r.st ≠ .fresh → (∀ x ∈ older, ¬(x.seq = n ∧ x.st ≠ .fresh)) →
          t.link.reports = newer
          ∧ t.link.resend = if 0 < t.link.windowCount then some s.device.live.resend else none)
      ∧ ((s.device.live.ack = false ∨ ∀ x ∈ s.link.reports, ¬(x.seq = n ∧ x.st ≠ .fresh)) →
          t.link.reports = s.link.reports ∧ t.link.resend = s.link.resend)
      ∧ t.link.nextSeq = s.link.nextSeq ∧ t.link.lost = s.link.lost
      ∧ t.link.rate = s.link.rate ∧ t.link.receiver = s.link.receiver ∧ t.link.connected = s.link.connected
      ∧ t.link.silence = s.link.silence ∧ t.link.awaitsReset = s.link.awaitsReset
      ∧ TransmitterServed s t ∧ SameButLink s t

/-- R169, R201: DEVICE_SET is refused while a device commit is pending, then for the first carried field out of range,
first in the order of the table, and otherwise writes exactly the carried fields into the staged copy. DEVICE_GET
returns the chosen copy with the pending mark, byte by byte, and is refused for a choice above 1. -/
def Obligations.DeviceSetAndDeviceGet : Prop :=
  (∀ (s : State) (q : Byte) (p : List Byte), Executes s ⟨q, 0x06, p⟩ → p.length = 8 →
    (s.device.pending = true → OnlyAnswers (.deviceSet q p) s ⟨q, 0x06, p⟩ [0x16])
    ∧ (s.device.pending = false → ∀ code, FirstOutOfRange (deviceFields p) code →
        OnlyAnswers (.deviceSet q p) s ⟨q, 0x06, p⟩ [0x12, code])
    ∧ (s.device.pending = false → AllInRange (deviceFields p) →
        ∃ t d, exec (.deviceSet q p) s = .next t ∧ Answered s t ⟨q, 0x06, p⟩ [0x00] ∧ SameReports s t
          ∧ t.device = { s.device with staged := d }
          ∧ (if bitAt p 0 0 then d.cycle.code = at8 p 1 else d.cycle = s.device.staged.cycle)
          ∧ (d.governor = if bitAt p 0 1 then decide (nat8 p 2 = 1) else s.device.staged.governor)
          ∧ (d.budget = if bitAt p 0 2 then nat16 p 3 else s.device.staged.budget)
          ∧ (d.timeout = if bitAt p 0 3 then nat8 p 5 else s.device.staged.timeout)
          ∧ (d.ack = if bitAt p 0 4 then decide (nat8 p 6 = 1) else s.device.staged.ack)
          ∧ (d.resend = if bitAt p 0 5 then nat8 p 7 else s.device.staged.resend)
          ∧ t.store = s.store ∧ t.zones = s.zones ∧ SamePlant s t ∧ t.pending = s.pending))
  ∧ (∀ (s : State) (q v : Byte), Executes s ⟨q, 0x07, [v]⟩ → 1 < v.toNat →
      OnlyAnswers (.deviceGet q [v]) s ⟨q, 0x07, [v]⟩ [0x12, 34])
  ∧ ∀ (s : State) (q : Byte) (staged : Bool), Executes s ⟨q, 0x07, [flagByte staged]⟩ →
      let d := if staged then s.device.staged else s.device.live
      OnlyAnswers (.deviceGet q [flagByte staged]) s ⟨q, 0x07, [flagByte staged]⟩
        [0x00, flagByte staged, flagByte s.device.pending,
          (match d.cycle with
            | .ms2 => 2
            | .ms8 => 8
            | .ms32 => 32
            | .ms128 => 128),
          flagByte d.governor, byte (d.budget / 256), byte d.budget, byte d.timeout, flagByte d.ack, byte d.resend]

/-- R157, R170: DEVICE_COMMIT is judged by the rows in their order, and an accepted one sets the device pending mark
and replies PENDING. -/
def Obligations.DeviceCommitIsJudgedInOrder : Prop :=
  ∀ (s : State) (q : Byte), Executes s ⟨q, 0x08, []⟩ →
    let idle := ∀ z, (s.zone z).zr.state = .idle
    let governed := s.device.staged.governor ≠ s.device.live.governor
      ∨ s.device.staged.budget ≠ s.device.live.budget
    let paced := s.device.staged.cycle ≠ s.device.live.cycle
    let fits := s.countedReserves ≤ s.device.staged.budget * 4096
    (s.device.pending = true → OnlyAnswers (.deviceCommit q []) s ⟨q, 0x08, []⟩ [0x16])
    ∧ (s.device.pending = false → (paced ∨ governed) → ¬idle →
        OnlyAnswers (.deviceCommit q []) s ⟨q, 0x08, []⟩ [0x19])
    ∧ (s.device.pending = false → governed → idle → ¬fits →
        OnlyAnswers (.deviceCommit q []) s ⟨q, 0x08, []⟩ [0x12, 24])
    ∧ (s.device.pending = false → ((paced ∨ governed) → idle) → (governed → fits) →
        ∃ t, exec (.deviceCommit q []) s = .next t ∧ Answered s t ⟨q, 0x08, []⟩ [0x01] ∧ SameReports s t
          ∧ t.device = { s.device with pending := true }
          ∧ t.store = s.store ∧ t.zones = s.zones ∧ SamePlant s t ∧ t.pending = s.pending)

/-! ## Program requests -/

/-- R6, R14: PROG_OPEN and PROG_DELETE of a slot that no zone uses return its segments to the free list and leave it
OPEN or EMPTY with no segments and no seal result; of a slot in use they are refused with IN_USE. -/
def Obligations.OpenAndDeleteEmptyTheSlot : Prop :=
  ∀ (s : State) (q : Byte) (k : SlotId) (delete : Bool),
    let c : Instr := if delete then .progDelete q [byte k.val] else .progOpen q [byte k.val]
    let f : WireFrame := ⟨q, if delete then 0x0C else 0x09, [byte k.val]⟩
    Executes s f →
    ((s.slot k).useCount = 0 →
      ∃ t, exec c s = .next t
        ∧ Answered s t f (0x00 :: be16 (s.store.free + (s.slot k).segs.length)) ∧ SameReports s t
        ∧ t.store.free = s.store.free + (s.slot k).segs.length
        ∧ t.slot k = { state := if delete then .empty else .opened, segs := [], useCount := 0, sealResult := none }
        ∧ (∀ j, j ≠ k → t.slot j = s.slot j) ∧ SameButStore s t)
    ∧ (0 < (s.slot k).useCount → OnlyAnswers c s f [0x14, byte (s.slot k).useCount])

/-- R7, R8: PROG_APPEND of one to eight segments is refused for a slot that is not OPEN, then for want of space, and
otherwise adds the carried segments at the end of the slot's list. -/
def Obligations.AppendAddsTheCarriedSegments : Prop :=
  ∀ (s : State) (q : Byte) (k : SlotId) (segs : List Seg),
    let p := byte k.val :: segs.flatMap Seg.bytes
    let f : WireFrame := ⟨q, 0x0A, p⟩
    let fits := segs.length ≤ s.store.free ∧ (s.slot k).segs.length + segs.length ≤ 255
    Executes s f → 1 ≤ segs.length → segs.length ≤ 8 →
    ((s.slot k).state ≠ .opened → OnlyAnswers (.progAppend q p) s f [0x13, (s.slot k).state.code])
    ∧ ((s.slot k).state = .opened → ¬fits →
        OnlyAnswers (.progAppend q p) s f (0x15 :: (be16 s.store.free ++ [byte (s.slot k).segs.length])))
    ∧ ((s.slot k).state = .opened → fits →
        ∃ t, exec (.progAppend q p) s = .next t
          ∧ Answered s t f
              (0x00 :: byte ((s.slot k).segs.length + segs.length) :: be16 (s.store.free - segs.length))
          ∧ SameReports s t
          ∧ t.store.free = s.store.free - segs.length
          ∧ t.slot k = { s.slot k with segs := (s.slot k).segs ++ segs }
          ∧ (∀ j, j ≠ k → t.slot j = s.slot j) ∧ SameButStore s t)

/-- R9, R13: PROG_SEAL is refused for a slot that is not OPEN; a failed check becomes the slot's seal result and is
answered with INVALID_PROGRAM, and a passed one makes the slot SEALED. -/
def Obligations.SealRecordsItsOutcome : Prop :=
  ∀ (s : State) (q : Byte) (k : SlotId),
    let p := [byte k.val]
    let f : WireFrame := ⟨q, 0x0B, p⟩
    Executes s f →
    ((s.slot k).state ≠ .opened → OnlyAnswers (.progSeal q p) s f [0x13, (s.slot k).state.code])
    ∧ ((s.slot k).state = .opened →
        ∃ t, exec (.progSeal q p) s = .next t
          ∧ Answered s t f
              (match sealCheck (s.slot k).segs with
                | some r => [0x1B, byte r.index, r.reason.code]
                | none => [0x00, byte (s.slot k).segs.length])
          ∧ SameReports s t ∧ t.store.free = s.store.free
          ∧ t.slot k = { s.slot k with
              state := if sealCheck (s.slot k).segs = none then .sealed else .opened
              sealResult := sealCheck (s.slot k).segs }
          ∧ (∀ j, j ≠ k → t.slot j = s.slot j) ∧ SameButStore s t)

/-- R3, R10 to R13: a program passes the seal check exactly when it is not empty, its one END is its last segment,
every segment's kind names one of the eight and its used fields are present and in range, every REPEAT is closed by an
AGAIN, no more than three loops are open at once, and no loop body is empty. R9 to R12: the check reports exactly the
first failure: the index and the reason of the first segment that fails its field checks or, passing them, its
structure check (END_NOT_LAST, LOOP_TOO_DEEP, AGAIN_WITHOUT_REPEAT, EMPTY_LOOP), and where every segment passes, the
first failure of the program's end (EMPTY_PROGRAM, NO_END, REPEAT_UNCLOSED). -/
def Obligations.SealChecksTheProgram : Prop :=
  (∀ segs : List Seg, sealCheck segs = none ↔ SoundProgram segs)
  ∧ (∀ (segs : List Seg) (r : SealResult), sealCheck segs = some r ↔ FirstFault segs r)

/-- R15, R16: PROG_INFO and PROG_READ return the slot's record and copies of its segments, and change nothing. -/
def Obligations.InfoAndReadOnlyAnswer : Prop :=
  ∀ (s : State) (q : Byte) (k : SlotId),
    let x := s.slot k
    (Executes s ⟨q, 0x0D, [byte k.val]⟩ →
      OnlyAnswers (.progInfo q [byte k.val]) s ⟨q, 0x0D, [byte k.val]⟩
        ([0x00, x.state.code, byte x.segs.length, byte x.useCount]
          ++ (match x.sealResult with
            | some r => [r.reason.code, byte r.index]
            | none => [0, 0])
          ++ be16 s.store.free))
    ∧ ∀ first count : Byte,
        let p := [byte k.val, first, count]
        Executes s ⟨q, 0x0E, p⟩ →
        ((count = 0 ∨ 8 < count.toNat) → OnlyAnswers (.progRead q p) s ⟨q, 0x0E, p⟩ [0x12, 4])
        ∧ (1 ≤ count.toNat → count.toNat ≤ 8 → x.segs.length < first.toNat + count.toNat →
            OnlyAnswers (.progRead q p) s ⟨q, 0x0E, p⟩ [0x12, 5])
        ∧ (1 ≤ count.toNat → count.toNat ≤ 8 → first.toNat + count.toNat ≤ x.segs.length →
            OnlyAnswers (.progRead q p) s ⟨q, 0x0E, p⟩
              ([0x00, byte k.val, first, count]
                ++ ((x.segs.drop first.toNat).take count.toNat).flatMap Seg.bytes))

/-! ## Zone requests -/

/-- R51: an accepted ZONE_START sets the zone up, clears its excursion counters and its accumulator, and raises the
slot's use count. The hypotheses are those of R50 under which no row refuses it. That an IDLE transmitter chooses
between its reply and its report, both ready, is the model's choice (log entry 7). -/
def Obligations.StartSetsTheZoneUp : Prop :=
  ∀ (s : State) (q : Byte) (z : ZoneId) (k : SlotId) (flags hi lo : Byte),
    let p := [byte z.val, byte k.val, flags, hi, lo]
    let f : WireFrame := ⟨q, 0x0F, p⟩
    let x := s.zone z
    Executes s f → x.zr.state = .idle → s.stop.asserted = false → (s.slot k).state = .sealed →
    x.restricted = false → FeedbackReady s z k → (∀ g ∈ x.live.guards, Usable s g.sensor) →
    ∃ (t : State) (setpoint : Int), exec (.zoneStart q p) s = .next t ∧ Answered s t f [0x00]
      ∧ (flags.getLsbD 0 = true → setpoint = (hi ++ lo).toInt)
      ∧ (flags.getLsbD 0 = false → ∀ i, x.live.feedback = some i → setpoint = (s.sensor i).filtered)
      ∧ (flags.getLsbD 0 = false → x.live.feedback = none → setpoint = 0)
      ∧ ZoneBecomes s t z
          { x with
            zr := { state := .running, causes := .none, target := x.zr.target, active := some k, seg := 0,
                    entered := false, elapsed := 0, origin := x.zr.origin, stack := [], setpoint := setpoint,
                    runMark := false, steps := 0, skip := false, holdBack := false, expired := false }
            exc := ⟨0, 0⟩
            ctl := { x.ctl with acc := 0 } }
      ∧ t.store.free = s.store.free
      ∧ (∀ j, t.slot j =
          if j = k then { s.slot k with useCount := (s.slot k).useCount + 1 } else s.slot j)
      ∧ Submitted s t (if x.live.reports.zoneState then [.zoneState z .idle .running .start .none] else [])

/-- R50: ZONE_START is refused by the first row that applies: a zone that is not IDLE, an asserted STOP input, a slot
that is not SEALED, a pending commit of a restricted field, a missing feedback sensor, one that is not usable, the
first live guard entry whose sensor is not. -/
def Obligations.StartIsRefusedInOrder : Prop :=
  ∀ (s : State) (q : Byte) (z : ZoneId) (slot flags hi lo : Byte),
    let p := [byte z.val, slot, flags, hi, lo]
    let x := s.zone z
    let refused := OnlyAnswers (.zoneStart q p) s ⟨q, 0x0F, p⟩
    Executes s ⟨q, 0x0F, p⟩ →
    (15 < slot.toNat → refused [0x12, 3])
    ∧ ∀ k : SlotId, slot = byte k.val →
      (x.zr.state ≠ .idle → refused [0x13, x.zr.state.code])
      ∧ (x.zr.state = .idle →
        (s.stop.asserted = true → refused [0x18])
        ∧ (s.stop.asserted = false →
          ((s.slot k).state ≠ .sealed → refused [0x13, (s.slot k).state.code])
          ∧ ((s.slot k).state = .sealed →
            (x.restricted = true → refused [0x16])
            ∧ (x.restricted = false →
              (NeedsFeedback (s.slot k).segs → x.live.feedback = none → refused [0x1A, 0xFF])
              ∧ (∀ i, x.live.feedback = some i → ¬Usable s i → refused [0x1A, byte i.val])
              ∧ (FeedbackReady s z k → ∀ before g after, x.live.guards = before ++ g :: after →
                  (∀ b ∈ before, Usable s b.sensor) → ¬Usable s g.sensor →
                  refused [0x1A, byte g.sensor.val])))))

/-- R68: ZONE_ABORT of an IDLE zone is accepted and changes nothing, of a TRIPPED one refused; an active zone becomes
IDLE, releases its program, and its output is cut and its holding returned at once. That an IDLE transmitter chooses
between its reply and its report, both ready, is the model's choice (log entry 7). -/
def Obligations.AbortEndsAnActiveZone : Prop :=
  ∀ (s : State) (q : Byte) (z : ZoneId),
    let p := [byte z.val]
    let f : WireFrame := ⟨q, 0x10, p⟩
    let x := s.zone z
    Executes s f →
    (x.zr.state = .idle → OnlyAnswers (.zoneAbort q p) s f [0x00])
    ∧ (x.zr.state = .tripped → OnlyAnswers (.zoneAbort q p) s f [0x13, 5])
    ∧ (x.zr.state.isActive = true →
        let x' : Zone := { x with
          zr := { x.zr with state := .idle, causes := .none, steps := 0, skip := false, active := none }
          frame := { x.frame with duty := 0, coarse := 0, fine := 0 }
          pin := decide (x.live.polarity = .activeLow)
          share := { x.share with holding := 0 } }
        ∃ t, exec (.zoneAbort q p) s = .next t ∧ Answered s t f [0x00] ∧ ZoneBecomes s t z x'
          ∧ Released s t x.zr.active ∧ Submitted s t (stateReports z x' x.zr.state .abort))

/-- R61: ZONE_PAUSE holds a RUNNING, STEPPING or KEEPING zone for HOST, adds HOST to the causes of a HELD one, and is
refused for an IDLE or TRIPPED one. A report goes out when the state or the cause set changes. That an IDLE
transmitter chooses between its reply and its report, both ready, is the model's choice (log entry 7). -/
def Obligations.PauseHoldsTheZone : Prop :=
  ∀ (s : State) (q : Byte) (z : ZoneId),
    let p := [byte z.val]
    let f : WireFrame := ⟨q, 0x11, p⟩
    let x := s.zone z
    Executes s f →
    (x.zr.state.isActive = false → OnlyAnswers (.zonePause q p) s f [0x13, x.zr.state.code])
    ∧ (x.zr.state ≠ .held → x.zr.state.isActive = true →
        let x' : Zone := { x with zr := { x.zr with
          state := .held
          causes := ⟨true, false, false, false, false, false⟩
          target := if x.zr.state = .keeping then .keeping else .running
          steps := 0 } }
        ZoneAnswers (.zonePause q p) s f [0x00] z x' (stateReports z x' x.zr.state .pause))
    ∧ (x.zr.state = .held →
        let x' : Zone := { x with zr := { x.zr with causes := { x.zr.causes with host := true } } }
        ZoneAnswers (.zonePause q p) s f [0x00] z x'
          (if x.zr.causes.host then [] else stateReports z x' .held .pause))

/-- R63: ZONE_RESUME removes from a HELD zone the causes it names, but for SENSOR while the live feedback sensor is
present and not usable; with none left the zone goes to its resume target. A cause set is taken bit by bit. That an
IDLE transmitter chooses between its reply and its report, both ready, is the model's choice (log entry 7). -/
def Obligations.ResumeRemovesTheNamedCauses : Prop :=
  ∀ (s : State) (q : Byte) (z : ZoneId) (named : Byte),
    let p := [byte z.val, named]
    let f : WireFrame := ⟨q, 0x12, p⟩
    let x := s.zone z
    let c := x.zr.causes
    Executes s f →
    (x.zr.state ≠ .held → OnlyAnswers (.zoneResume q p) s f [0x13, x.zr.state.code])
    ∧ (x.zr.state = .held → c.isEmpty = false → ∀ stays : Bool, (stays = true ↔ FeedbackBroken s z) →
        let left : Causes := {
          host := c.host && !named.getLsbD 0
          brk := c.brk && !named.getLsbD 1
          step := c.step && !named.getLsbD 2
          sensor := c.sensor && (stays || !named.getLsbD 3)
          link := c.link && !named.getLsbD 4
          settle := c.settle && !named.getLsbD 5 }
        let x' : Zone := { x with zr := { x.zr with
          causes := left
          state := if left = .none then (if x.zr.target = .keeping then .keeping else .running) else .held } }
        ZoneAnswers (.zoneResume q p) s f
          [if c.sensor && named.getLsbD 3 && stays then 0x02 else 0x00, left.code] z x'
          (if left = c then [] else stateReports z x' .held .resume))

/-- R65: ZONE_STEP with a count of 0 is refused for its count, then for any zone but a HELD one with resume target
RUNNING and neither SENSOR nor LINK among its causes; such a zone becomes STEPPING with the count. That an IDLE
transmitter chooses between its reply and its report, both ready, is the model's choice (log entry 7). R66: ZONE_SKIP
sets the skip request of a zone that is RUNNING, STEPPING, or HELD with resume target RUNNING, and is refused
otherwise. -/
def Obligations.StepAndSkipActOnTheProgram : Prop :=
  (∀ (s : State) (q : Byte) (z : ZoneId) (n : Byte),
     let p := [byte z.val, n]
     let f : WireFrame := ⟨q, 0x13, p⟩
     let x := s.zone z
     let steppable := x.zr.state = .held ∧ x.zr.target = .running ∧ x.zr.causes.sensor = false
       ∧ x.zr.causes.link = false
     Executes s f →
     (n = 0 → OnlyAnswers (.zoneStep q p) s f [0x12, 4])
     ∧ (n ≠ 0 → ¬steppable → OnlyAnswers (.zoneStep q p) s f [0x13, x.zr.state.code])
     ∧ (n ≠ 0 → steppable →
         let x' : Zone := { x with zr := { x.zr with state := .stepping, causes := .none, steps := n.toNat } }
         ZoneAnswers (.zoneStep q p) s f [0x00] z x' (stateReports z x' .held .step)))
  ∧ (∀ (s : State) (q : Byte) (z : ZoneId),
       let p := [byte z.val]
       let f : WireFrame := ⟨q, 0x14, p⟩
       let x := s.zone z
       let runs := x.zr.state = .running ∨ x.zr.state = .stepping ∨ (x.zr.state = .held ∧ x.zr.target = .running)
       Executes s f →
       (runs → ZoneAnswers (.zoneSkip q p) s f [0x00] z { x with zr := { x.zr with skip := true } } [])
       ∧ (¬runs → OnlyAnswers (.zoneSkip q p) s f [0x13, x.zr.state.code]))

/-- R117, R120: ZONE_TRIP is refused for an IDLE or TRIPPED zone; an active zone enters TRIPPED with cause HOST_ZONE,
releases its program, and its TRIP report is submitted. That an IDLE transmitter chooses between its reply and its
report, both ready, is the model's choice (log entry 7). -/
def Obligations.ZoneTripEntersTripped : Prop :=
  ∀ (s : State) (q : Byte) (z : ZoneId),
    let p := [byte z.val]
    let f : WireFrame := ⟨q, 0x15, p⟩
    let x := s.zone z
    Executes s f →
    (x.zr.state.isActive = false → OnlyAnswers (.zoneTrip q p) s f [0x13, x.zr.state.code])
    ∧ (x.zr.state.isActive = true →
        ∃ t, exec (.zoneTrip q p) s = .next t ∧ Answered s t f [0x00]
          ∧ ZoneBecomes s t z (trippedFrom x .hostZone none) ∧ Released s t x.zr.active
          ∧ Submitted s t [.trip z (recordOf x .hostZone none)])

/-- R122, R123: ZONE_CLEAR_TRIP is refused for a zone that is not TRIPPED, for an asserted STOP input and for the
first live guard entry whose condition persists; otherwise the zone becomes IDLE, its record goes out in the reply,
ten bytes as R210 lays them out, and is gone. That an IDLE transmitter chooses between its reply and its report, both
ready, is the model's choice (log entry 7). That the bits of its presence flags that R210 does not name are 0 is the
model's choice (log entry 26). -/
def Obligations.ClearTripReturnsTheRecord : Prop :=
  ∀ (s : State) (q : Byte) (z : ZoneId),
    let p := [byte z.val]
    let f : WireFrame := ⟨q, 0x16, p⟩
    let x := s.zone z
    Executes s f →
    (x.zr.state ≠ .tripped → OnlyAnswers (.zoneClearTrip q p) s f [0x13, x.zr.state.code])
    ∧ (x.zr.state = .tripped → s.stop.asserted = true → OnlyAnswers (.zoneClearTrip q p) s f [0x18])
    ∧ (x.zr.state = .tripped → s.stop.asserted = false →
        (∀ before g after, x.live.guards = before ++ g :: after → (∀ b ∈ before, ¬Persists s b) → Persists s g →
          OnlyAnswers (.zoneClearTrip q p) s f [0x17, byte before.length, byte g.sensor.val])
        ∧ ((∀ g ∈ x.live.guards, ¬Persists s g) → ∀ r, x.trip = some r →
          let x' : Zone := { x with trip := none, exc := ⟨0, 0⟩, zr := { x.zr with state := .idle } }
          ZoneAnswers (.zoneClearTrip q p) s f (0x00 :: byte z.val :: tripForm r) z x'
            (stateReports z x' .tripped .clearTrip)))

/-- R71, R209: the status record read back field by field, each number in the width of its field (a field in its range
is shown as it is); the read changes nothing. R202: the codes of the enumerated values, in this reply and the others.
That the bits of a report selection that R202 does not name are 0 is the model's choice (log entry 26). -/
def Obligations.StatusShowsTheZone : Prop :=
  CodesOfTheTable
  ∧ ∀ (s : State) (q : Byte) (z : ZoneId),
    let f : WireFrame := ⟨q, 0x17, [byte z.val]⟩
    let x := s.zone z
    let r := x.zr
    Executes s f →
    ∃ b, OnlyAnswers (.zoneStatus q [byte z.val]) s f b ∧ b.length = 33
      ∧ nat8 b 0 = 0 ∧ nat8 b 1 = z.val ∧ at8 b 2 = r.state.code ∧ at8 b 3 = r.causes.code
      ∧ bitAt b 4 0 = decide (r.target = .keeping) ∧ bitAt b 4 1 = r.entered ∧ bitAt b 4 2 = r.runMark
      ∧ bitAt b 4 3 = r.skip ∧ bitAt b 4 4 = r.holdBack ∧ bitAt b 4 5 = r.expired
      ∧ bitAt b 4 6 = x.ctl.trimmedLast ∧ bitAt b 4 7 = x.pending
      ∧ bitAt b 5 0 = x.restricted
      ∧ nat8 b 5 / 2 % 8 = (if r.state = .tripped then (x.trip.map (·.cause.code.toNat)).getD 0 else 0)
      ∧ nat8 b 5 / 16 = r.stack.length % 16
      ∧ nat8 b 6 = (r.active.map Fin.val).getD 255 ∧ nat8 b 7 = r.seg % 256 ∧ nat24 b 8 = r.elapsed % 16777216
      ∧ int16 b 11 = r.origin.bmod 65536 ∧ int16 b 13 = r.setpoint.bmod 65536 ∧ nat8 b 15 = r.steps % 256
      ∧ nat24 b 16 = x.ctl.acc.toNat % 16777216 ∧ nat16 b 19 = x.ctl.lastDemand % 65536
      ∧ nat16 b 21 = x.ctl.lastGrant % 65536
      ∧ (∀ i, x.live.feedback = some i →
          nat8 b 23 = i.val ∧ at8 b 24 = (s.sensor i).status.code
          ∧ int16 b 25 = (s.sensor i).filtered.bmod 65536)
      ∧ (x.live.feedback = none → nat8 b 23 = 255 ∧ nat8 b 24 = 0 ∧ nat16 b 25 = 0)
      ∧ (∀ n, n < 3 →
          nat8 b (27 + 2 * n) = (r.stack[n]?.map Loop.repeatAt).getD 0 % 256
          ∧ nat8 b (28 + 2 * n) = (r.stack[n]?.map Loop.remaining).getD 0 % 256)

/-! ## Staging requests -/

/-- R162, R201: ZONE_SET_PARAM is refused while a commit is pending on the zone, then for the first carried field out
of its range, first in the order of the table, and otherwise writes exactly the carried fields into the staged copy.
-/
def Obligations.SetParamWritesTheCarriedFields : Prop :=
  ∀ (s : State) (q : Byte) (z : ZoneId) (rest : List Byte),
    let p := byte z.val :: rest
    let f : WireFrame := ⟨q, 0x18, p⟩
    let x := s.zone z
    let old := x.staged
    Executes s f → p.length = 40 →
    (x.pending = true → OnlyAnswers (.zoneSetParam q p) s f [0x16])
    ∧ (x.pending = false → ∀ code, FirstOutOfRange (paramFields p) code →
        OnlyAnswers (.zoneSetParam q p) s f [0x12, code])
    ∧ (x.pending = false → AllInRange (paramFields p) →
        ∃ new : Params, ZoneAnswers (.zoneSetParam q p) s f [0x00] z { x with staged := new } []
          ∧ (if carried p 0 then (if bitAt p 3 0 then new.feedback = none
              else new.feedback.map Fin.val = some (nat8 p 4)) else new.feedback = old.feedback)
          ∧ new.kp = (if carried p 1 then nat16 p 5 else old.kp)
          ∧ new.ki = (if carried p 2 then nat16 p 7 else old.ki)
          ∧ new.floor = (if carried p 3 then nat16 p 9 else old.floor)
          ∧ new.ceiling = (if carried p 4 then nat16 p 11 else old.ceiling)
          ∧ new.slew = (if carried p 5 then (if bitAt p 3 1 then none else some (nat16 p 13)) else old.slew)
          ∧ new.fallback = (if carried p 6 then nat16 p 15 else old.fallback)
          ∧ (if carried p 7 then new.hold.code = at8 p 17 else new.hold = old.hold)
          ∧ new.phase = (if carried p 8 then nat8 p 18 else old.phase)
          ∧ new.frameOffset = (if carried p 9 then nat8 p 19 else old.frameOffset)
          ∧ new.weight = (if carried p 10 then nat8 p 20 else old.weight)
          ∧ new.reserve = (if carried p 11 then nat16 p 21 else old.reserve)
          ∧ (if carried p 12 then new.polarity.code = at8 p 23 else new.polarity = old.polarity)
          ∧ (if carried p 13 then new.guards.length = nat8 p 24
              ∧ (∀ n g, new.guards[n]? = some g →
                  g.sensor.val = nat8 p (25 + 7 * n) ∧ g.high = int16 p (27 + 7 * n)
                  ∧ g.low = (if bitAt p (26 + 7 * n) 0 then some (int16 p (29 + 7 * n)) else none)
                  ∧ g.qualify = nat8 p (31 + 7 * n))
              else new.guards = old.guards)
          ∧ (if carried p 14 then new.reports.code = at8 p 39 else new.reports = old.reports))

/-- R163: ZONE_GET_PARAM returns the chosen copy with the two marks, and changes nothing. That the bits of the reply
that R211 does not name are 0 is the model's choice (log entry 26). R167: ZONE_DISCARD makes the staged copy the live
one, and ends a pending commit with a CANCELLED report. That an IDLE transmitter chooses between its reply and its
report, both ready, is the model's choice (log entry 7). -/
def Obligations.GetParamAnswersAndDiscardCancels : Prop :=
  ((∀ (s : State) (q : Byte) (z : ZoneId) (v : Byte), Executes s ⟨q, 0x19, [byte z.val, v]⟩ → 1 < v.toNat →
     OnlyAnswers (.zoneGetParam q [byte z.val, v]) s ⟨q, 0x19, [byte z.val, v]⟩ [0x12, 34])
   ∧ ∀ (s : State) (q : Byte) (z : ZoneId) (staged : Bool),
       let p := [byte z.val, flagByte staged]
       let x := s.zone z
       Executes s ⟨q, 0x19, p⟩ →
       OnlyAnswers (.zoneGetParam q p) s ⟨q, 0x19, p⟩
         ([0x00, byte z.val, flagByte staged, byte ((if x.pending then 1 else 0) + (if x.restricted then 2 else 0))]
           ++ (if staged then x.staged else x.live).bytes))
  ∧ (∀ (s : State) (q : Byte) (z : ZoneId),
       let p := [byte z.val]
       let x := s.zone z
       Executes s ⟨q, 0x1B, p⟩ →
       ZoneAnswers (.zoneDiscard q p) s ⟨q, 0x1B, p⟩ [0x00] z
         { x with staged := x.live, pending := false, restricted := false }
         (if x.pending then [.committed (some z) .cancelled] else []))

/-- R211: the form in which ZONE_GET_PARAM sends a record is the form that ZONE_SET_PARAM reads: every record within
its ranges, sent with every field carried, is read back as it was, and no field is found out of range. -/
def Obligations.ParamFormRoundTrips : Prop :=
  ∀ (z : ZoneId) (r old : Params), ParamsInRange r →
    r.bytes.length = 37
    ∧ AllInRange (paramFields ([byte z.val, 0x7F, 0xFF] ++ r.bytes))
    ∧ paramsWith ([byte z.val, 0x7F, 0xFF] ++ r.bytes) old = r

/-- R156, R164, R165: ZONE_COMMIT is refused by the first row that applies: a pending commit, a floor above the
ceiling, two guard entries on one sensor, a restricted difference on a zone that is not IDLE, a failed reserve check;
otherwise the pending mark is set, and the restricted mark by whether a restricted field differs. The second reserve
check is R156's formula in every state, also where R156's remark on it does not agree (model's choice, log entry 23).
-/
def Obligations.ZoneCommitIsJudgedInOrder : Prop :=
  ∀ (s : State) (q : Byte) (z : ZoneId),
    let p := [byte z.val]
    let f : WireFrame := ⟨q, 0x1A, p⟩
    let x := s.zone z
    let refused := OnlyAnswers (.zoneCommit q p) s f
    let sameSensor := ∃ a b, x.staged.guards = [a, b] ∧ a.sensor = b.sensor
    let reserved := RestrictedDiffer x.staged x.live → x.zr.state = .idle
    Executes s f →
    (x.pending = true → refused [0x16])
    ∧ (x.pending = false →
      (x.staged.ceiling < x.staged.floor → refused [0x12, 10])
      ∧ (x.staged.floor ≤ x.staged.ceiling →
        (sameSensor → refused [0x12, 20])
        ∧ (¬sameSensor →
          (¬reserved → refused [0x19])
          ∧ (reserved → ¬(ReservesFit s z ∧ PoolHasRoom s z) → refused [0x12, 18])
          ∧ (reserved → ReservesFit s z → PoolHasRoom s z → ∀ mark : Bool,
              (mark = true ↔ RestrictedDiffer x.staged x.live) →
              ZoneAnswers (.zoneCommit q p) s f [0x01] z { x with pending := true, restricted := mark } []))))

/-! ## Sensor requests -/

/-- R106, R201: SENSOR_SET is refused for the first carried field out of its range, first in the order that R106
gives, and otherwise writes exactly the carried fields and unseeds the filter, whether or not any field is carried. -/
def Obligations.SensorSetWritesTheCarriedFields : Prop :=
  ∀ (s : State) (q : Byte) (i : SensorId) (rest : List Byte),
    let p := byte i.val :: rest
    let f : WireFrame := ⟨q, 0x1C, p⟩
    let n := s.sensor i
    Executes s f → p.length = 13 →
    (∀ code, FirstOutOfRange (sensorFields p) code → OnlyAnswers (.sensorSet q p) s f [0x12, code])
    ∧ (AllInRange (sensorFields p) →
        ∃ t, exec (.sensorSet q p) s = .next t ∧ Answered s t f [0x00] ∧ SameReports s t
          ∧ t.sensor i = { n with
              gain := if bitAt p 1 0 then int16 p 3 else n.gain
              offset := if bitAt p 1 1 then int16 p 5 else n.offset
              shift := if bitAt p 1 2 then nat8 p 7 else n.shift
              openAt := if bitAt p 1 3 then (if bitAt p 2 0 then none else some (nat16 p 8)) else n.openAt
              shortAt := if bitAt p 1 4 then (if bitAt p 2 1 then none else some (nat16 p 10)) else n.shortAt
              faultCount := if bitAt p 1 5 then nat8 p 12 else n.faultCount
              seeded := false }
          ∧ (∀ j, j ≠ i → t.sensor j = s.sensor j)
          ∧ t.scan = s.scan ∧ t.stop = s.stop ∧ t.modulator = s.modulator
          ∧ t.store = s.store ∧ t.zones = s.zones ∧ t.device = s.device ∧ t.pending = s.pending)

/-- R107, R212: the sensor record read back field by field, each number in the width of its field (a field in its
range is shown as it is); the read changes nothing. That an absent last scaled reading is sent as 0 is the model's
choice (log entry 25). R96, R212: SCAN_GET returns the converter's state and the two lists. -/
def Obligations.SensorReadAndScanGetOnlyAnswer : Prop :=
  (∀ (s : State) (q : Byte) (i : SensorId),
     let f : WireFrame := ⟨q, 0x1D, [byte i.val]⟩
     let n := s.sensor i
     Executes s f →
     ∃ b, OnlyAnswers (.sensorRead q [byte i.val]) s f b ∧ b.length = 25
       ∧ nat8 b 0 = 0 ∧ nat8 b 1 = i.val ∧ int16 b 2 = n.gain.bmod 65536 ∧ int16 b 4 = n.offset.bmod 65536
       ∧ nat8 b 6 = n.shift % 256
       ∧ bitAt b 7 0 = n.openAt.isSome ∧ bitAt b 7 1 = n.shortAt.isSome
       ∧ nat16 b 8 = n.openAt.getD 0 % 65536 ∧ nat16 b 10 = n.shortAt.getD 0 % 65536
       ∧ nat8 b 12 = n.faultCount % 256
       ∧ at8 b 13 = n.status.code ∧ nat16 b 14 = n.lastCode % 65536 ∧ at8 b 16 = n.lastClass.code
       ∧ bitAt b 17 0 = n.lastScaled.isSome ∧ bitAt b 17 1 = n.seeded
       ∧ int16 b 18 = (n.lastScaled.getD 0).bmod 65536 ∧ int16 b 20 = n.filtered.bmod 65536
       ∧ nat8 b 22 = n.invalids % 256 ∧ nat8 b 23 = n.valids % 256 ∧ nat8 b 24 = s.scan.live.count i % 256)
  ∧ (∀ (s : State) (q : Byte), Executes s ⟨q, 0x1F, []⟩ →
       OnlyAnswers (.scanGet q []) s ⟨q, 0x1F, []⟩
         (match s.scan.pending with
           | some l =>
             [0x00, (if s.scan.converting = none then 0 else 1), 1, byte s.scan.live.length, byte l.length]
               ++ s.scan.live.map (fun i => byte i.val) ++ l.map (fun i => byte i.val)
           | none =>
             [0x00, (if s.scan.converting = none then 0 else 1), 0, byte s.scan.live.length, 0]
               ++ s.scan.live.map (fun i => byte i.val)))

/-- R91: SCAN_SET is refused for a count above 24, then for an entry above 15, then for the lowest-numbered sensor
that its list omits while an active zone uses it. R92, R94, R95: an accepted SCAN_SET replies PENDING. While the
converter is CONVERTING its list becomes the pending list and nothing else moves; while it is IDLE, in a consistent
state, the list is taken at once: it becomes the live list, the sensors it lists are WAITING, and SCAN_TAKEN goes out.
That an IDLE transmitter chooses between its reply and its report, both ready, is the model's choice (log entry 7). -/
def Obligations.ScanSetIsRefusedPendingOrTaken : Prop :=
  (∀ (s : State) (q n : Byte) (entries : List Byte),
     let p := n :: entries
     let refused := OnlyAnswers (.scanSet q p) s ⟨q, 0x1E, p⟩
     Executes s ⟨q, 0x1E, p⟩ → entries.length = n.toNat →
     (24 < n.toNat → refused [0x12, 4])
     ∧ (n.toNat ≤ 24 → (∃ b ∈ entries, 15 < b.toNat) → refused [0x12, 6])
     ∧ (n.toNat ≤ 24 → (∀ b ∈ entries, b.toNat ≤ 15) →
         ∀ i : SensorId, InUse s i → byte i.val ∉ entries →
           (∀ j : SensorId, j < i → InUse s j → byte j.val ∈ entries) → refused [0x14, byte i.val]))
  ∧ (∀ (s : State) (q : Byte) (list : List SensorId),
       let p := byte list.length :: list.map (fun i => byte i.val)
       let f : WireFrame := ⟨q, 0x1E, p⟩
       Executes s f → list.length ≤ 24 → (∀ i, InUse s i → i ∈ list) →
       (s.scan.converting ≠ none →
         ∃ t, exec (.scanSet q p) s = .next t ∧ Answered s t f [0x01] ∧ SameReports s t
           ∧ t.scan = { s.scan with pending := some list } ∧ t.sensors = s.sensors ∧ t.stop = s.stop
           ∧ t.modulator = s.modulator ∧ t.store = s.store ∧ t.zones = s.zones ∧ t.device = s.device
           ∧ t.pending = s.pending)
       ∧ (ScanConsistent s → s.scan.converting = none →
           ∃ t, exec (.scanSet q p) s = .next t ∧ Answered s t f [0x01]
             ∧ Submitted s t [.scanTaken list.length]
             ∧ t.scan = { live := list, pending := none, converting := if list = [] then none else some 0 }
             ∧ (∀ i, t.sensor i =
                 if i ∈ list then { s.sensor i with status := .waiting, invalids := 0, valids := 0, seeded := false }
                 else s.sensor i)
             ∧ t.stop = s.stop ∧ t.modulator = s.modulator ∧ t.store = s.store ∧ t.zones = s.zones
             ∧ t.device = s.device ∧ t.pending = s.pending))

/-! ## The line and the receive queue -/

/-- R175, R176: a byte other than SYNC is discarded while HUNTING and SYNC begins a frame; a LENGTH above 120 abandons
it; the last byte of a frame completes it, as a good frame when the CRC it carries is the frame's and as a lost one
otherwise; any other byte is collected. That the deciding byte has the frame's effect in its own step is the model's
reading (DEDUCED, log entry 6). A transmitter found IDLE has first made its choice (R183). -/
def Obligations.BytesAreCollectedIntoFrames : Prop :=
  (∀ (s : State) (b : Byte), s.link.receiver = .hunting → b ≠ 0xC3#8 →
      exec (.receivedByte b) s = .next (chosen s))
  ∧ (∀ s : State, s.link.receiver = .hunting →
      exec (.receivedByte 0xC3#8) s
        = .next { chosen s with link := { (chosen s).link with receiver := .collecting [] } })
  ∧ (∀ (s : State) (b : Byte), s.link.receiver = .collecting [] → 120 < b.toNat →
      exec (.receivedByte b) s = exec .frameLength s)
  ∧ ∀ (s : State) (f : WireFrame) (hi lo b : Byte) (before after : List Byte), f.payload.length ≤ 120 →
      f.body ++ [hi, lo] = before ++ b :: after → s.link.receiver = .collecting before →
      (after ≠ [] →
        exec (.receivedByte b) s
          = .next { chosen s with link := { (chosen s).link with receiver := .collecting (before ++ [b]) } })
      ∧ (after = [] → hi ++ lo = f.crc → exec (.receivedByte b) s = exec (.goodFrame f.seq f.kind f.payload) s)
      ∧ (after = [] → hi ++ lo ≠ f.crc → exec (.receivedByte b) s = exec .frameCrc s)

/-- R174, R175: the bytes of a frame, received one after the other from HUNTING, are the arrival of that frame: what
the part sends, the part would receive. That the deciding byte has the frame's effect in its own step is the model's
reading (DEDUCED, log entry 6). -/
def Obligations.FrameBytesAreAGoodFrame : Prop :=
  ∀ (s : State) (f : WireFrame), s.link.receiver = .hunting → f.payload.length ≤ 120 →
    feed f.bytes s = exec (.goodFrame f.seq f.kind f.payload) s

/-- R177, R193: a good frame restarts the silence timer with the live timeout, ends LOST with LINK_RESTORED, and joins
the receive queue, or is lost for OVERRUN when four frames wait. A payload above 120 bytes is in no frame, and its
command changes nothing (model's choice, log entry 5). A transmitter found IDLE has first made its choice (R183). -/
def Obligations.GoodFrameJoinsTheQueue : Prop :=
  (∀ (s : State) (q k : Byte) (p : List Byte), 120 < p.length →
      exec (.goodFrame q k p) s = .next (chosen s))
  ∧ ∀ (s : State) (q k : Byte) (p : List Byte), p.length ≤ 120 →
      let l := if s.link.connected then (chosen s).link else (chosen s).link.submit .linkRestored
      ∃ t, exec (.goodFrame q k p) s = .next t
        ∧ t.link.receiver = .hunting ∧ t.link.connected = true
        ∧ t.link.silence = (if s.device.live.timeout = 0 then none else some s.device.live.timeout)
        ∧ (s.link.rxQueue.length < 4 → t.link.rxQueue = s.link.rxQueue ++ [⟨q, k, p⟩] ∧ ReportsOf l t)
        ∧ (4 ≤ s.link.rxQueue.length →
            t.link.rxQueue = s.link.rxQueue ∧ ReportsOf (l.countLoss .overrun) t)
        ∧ t.link.rate = s.link.rate ∧ t.link.replies = s.link.replies ∧ t.link.retry = s.link.retry
        ∧ t.link.awaitsReset = s.link.awaitsReset ∧ t.link.resend = s.link.resend
        ∧ TransmitterServed s t ∧ SameButLink s t

/-- R176: a frame lost for CRC, LENGTH or GAP is counted, and leaves the silence timer, the receive queue, the
executor and the retry memory as they were. The model's own: FRAME_CRC and FRAME_LENGTH stand for the arrival of the
deciding byte whatever the receiver has collected (log entry 5), and FRAME_GAP with no frame being collected changes
nothing (log entry 12). A transmitter found IDLE has first made its choice (R183). R178: a lost frame raises its count
in the first unsent LINK_ERROR report, which keeps its place and number; with none it submits a new one with that
count alone. -/
def Obligations.LostFramesRaiseTheLinkError : Prop :=
  (∀ s : State, LosesFrame .frameCrc s .crc ∧ LosesFrame .frameLength s .length
     ∧ (∀ bs, s.link.receiver = .collecting bs → LosesFrame .frameGap s .gap)
     ∧ (s.link.receiver = .hunting → exec .frameGap s = .next (chosen s)))
  ∧ (∀ (l : Link) (cause : LossCause),
       (∀ older q newer n, l.reports = older ++ q :: newer → (∀ x ∈ older, ¬UnsentError l x) → UnsentError l q →
         q.report = .linkError n →
         l.countLoss cause
           = { l with reports := older ++ { q with report := .linkError (countedOnce n cause) } :: newer })
       ∧ ((∀ q ∈ l.reports, ¬UnsentError l q) →
         l.countLoss cause = l.submit (.linkError (countedOnce ⟨0, 0, 0, 0⟩ cause))))

/-! ## The report queue -/

/-- R184, R185, R186: a report is admitted by its class with the next number, or lost and counted; after a loss a LOST
report with the count goes ahead of the next report where both find a place. -/
def Obligations.ReportsAreAdmittedByClass : Prop :=
  ∀ (l : Link) (r : Report),
    let n := l.reports.length
    let places := if r.priority then 32 else 28
    let admitted := { l with reports := l.reports ++ [⟨l.nextSeq, r, .fresh⟩], nextSeq := l.nextSeq + 1 }
    let lost := { l with lost := min 65535 (l.lost + 1) }
    (l.lost = 0 → n < places → l.submit r = admitted)
    ∧ (l.lost = 0 → places ≤ n → l.submit r = lost)
    ∧ (0 < l.lost → n < 32 → n + 1 < places →
        l.submit r = { l with
          reports := l.reports ++ [⟨l.nextSeq, .lost l.lost, .fresh⟩, ⟨l.nextSeq + 1, r, .fresh⟩]
          nextSeq := l.nextSeq + 1 + 1
          lost := 0 })
    ∧ (0 < l.lost → ¬(n < 32 ∧ n + 1 < places) → r.priority = true → n < 32 → l.submit r = admitted)
    ∧ (0 < l.lost → ¬(n < 32 ∧ n + 1 < places) → r.priority = false → l.submit r = lost)
    ∧ (0 < l.lost → r.priority = true → 32 ≤ n → l.submit r = lost)

/-- R173, R183: the arbiter sends the oldest reply, but for the eligible report after three replies in a row while one
waited. TXD then goes through the levels of the frame's bytes, back to back, and is high when none is sent; nothing
else changes but the run count. Every command finds an IDLE transmitter's choice made, and leaves a transmitter IDLE
only where there is nothing to send or where it has reset the link, whose transmitter R196 leaves IDLE. That what
becomes ready within a command is chosen from at its end is the model's choice (log entry 7). R202, R210, R213: a
report's frame carries its number, the code of its kind and its fields one by one. That the bits of a trip record's
presence flags that R210 does not name are 0 is the model's choice (log entry 26). -/
def Obligations.ArbiterChoosesTheNextFrame : Prop :=
  (∀ (l : Link) (ack : Bool),
    let frame (q : Queued) : WireFrame := ⟨q.seq, (reportForm q.report).1, (reportForm q.report).2⟩
    (∀ f rest, l.replies = f :: rest → (∀ q, ¬Offered l ack q) →
      l.choose ack = { l with tx := .reply f, txd := lineLevels f, runCount := 0 })
    ∧ (∀ f rest q, l.replies = f :: rest → Offered l ack q → l.runCount < 3 →
      l.choose ack = { l with tx := .reply f, txd := lineLevels f, runCount := l.runCount + 1 })
    ∧ (∀ f rest q, l.replies = f :: rest → Offered l ack q → 3 ≤ l.runCount →
      l.choose ack = { l with tx := .report (frame q) false, txd := lineLevels (frame q), runCount := 0 })
    ∧ (∀ q, l.replies = [] → Offered l ack q →
      l.choose ack = { l with tx := .report (frame q) false, txd := lineLevels (frame q), runCount := 0 })
    ∧ (l.replies = [] → (∀ q, ¬Offered l ack q) → l.choose ack = { l with tx := .idle, txd := [] }))
  ∧ (∀ (c : Instr) (s : State), exec c s = exec c (chosen s))
  ∧ ∀ (c : Instr) (s t : State), exec c s = .next t → t.link.tx = .idle →
      (t.link.replies = [] ∧ ∀ q, ¬Offered t.link t.device.live.ack q)
      ∨ (∃ cause baud1 baud0, c = .hardReset cause baud1 baud0)
      ∨ (SendsRestartReply (chosen s) ∧ (c = .softReset ∨ c = .frameSent))

/-- R182, R187, R188, R190: as a frame's last byte leaves TXD, a reply leaves its queue; a report leaves the queue
with acknowledgement off, and with it on becomes SENT, or DUE after a go-back during its transmission, the resend
timer starting when the window count rises from 0 to 1. Then the arbiter chooses. A transmitter found IDLE has first
made its choice, and the frame it chose is the one that ends (R183). The model's own: with no frame to send FRAME_SENT
changes nothing (log entry 12), and a go-back during the transmission counts also where acknowledgement was turned off
and on again during it (log entry 24). The reply to RESTART is left to Obligations.SoftResetRestoresTheBlocks. -/
def Obligations.FrameSentServesTheQueues : Prop :=
  ∀ s : State,
    let u := chosen s
    let d := s.device.live
    ¬SendsRestartReply u →
    ∃ t, exec .frameSent s = .next t ∧ SameButLink s t
      ∧ (u.link.tx = .idle → t.link = u.link)
      ∧ (∀ f, u.link.tx = .reply f → t.link = ({ u.link with replies := u.link.replies.tail } : Link).choose d.ack)
      ∧ (∀ f w, u.link.tx = .report f w → d.ack = false →
          t.link = ({ u.link with reports := u.link.reports.filter (fun q => decide (q.seq ≠ f.seq)) } : Link).choose
            false)
      ∧ (∀ f w, u.link.tx = .report f w → d.ack = true →
          let sent := u.link.reports.map
            (fun q => if q.seq = f.seq then { q with st := if w then .due else .sent } else q)
          let waiting := fun q : Queued => decide (q.st ≠ .fresh)
          t.link = ({ u.link with
            reports := sent
            resend := if u.link.reports.countP waiting = 0 ∧ sent.countP waiting = 1 then some d.resend
              else u.link.resend } : Link).choose true)

/-- R190: at the expiry of the resend timer it restarts, and with a window count above 0 every SENT or DUE report
becomes DUE and a report in transmission, whose bytes go on as they were, is marked to become DUE. A stopped timer
does not expire (model's choice, log entry 12). A transmitter found IDLE has first made its choice (R183). -/
def Obligations.GoBackMarksTheWindow : Prop :=
  ∀ s : State,
    (s.link.resend = none → exec .goBack s = .next (chosen s))
    ∧ (s.link.resend ≠ none →
        let waiting := s.link.reports.countP (fun q => decide (q.st ≠ .fresh))
        let u := chosen s
        (waiting = 0 → exec .goBack s =
          .next (chosen { u with link := { u.link with resend := some s.device.live.resend } }))
        ∧ (0 < waiting → exec .goBack s =
          .next (chosen { u with link := { u.link with
            reports := u.link.reports.map (fun q => { q with st := if q.st = .fresh then .fresh else .due })
            tx := (match u.link.tx with | .report f _ => .report f true | tx => tx)
            resend := some s.device.live.resend } })))

/-- R62, R192: at the expiry of the silence timer the link becomes LOST and the timer stops, LINK_LOST is submitted,
and every RUNNING, STEPPING, KEEPING or HELD zone is held for LINK, the ZONE_STATE reports following in the order the
command gives. The model's own: LINK_LOST carries the timeout the timer was running with, which in a run is the live
one (DEDUCED, log entry 22); the order of the reports, which the rule leaves open, is an operand (log entry 8); a
stopped timer does not expire (log entry 12). A transmitter found IDLE has first made its choice (R183). -/
def Obligations.SilenceHoldsTheZones : Prop :=
  (∀ (s : State) (order : List Nat), s.link.silence = none →
      exec (.silenceTimerExpiry order) s = .next (chosen s))
  ∧ ∀ (s : State) (zs : List ZoneId) (timeout : Nat), zs.Perm allZones → s.link.silence = some timeout →
      ∃ t, exec (.silenceTimerExpiry (zs.map Fin.val)) s = .next t
        ∧ t.link.connected = false ∧ t.link.silence = none
        ∧ (∀ z, t.zone z = linkHeld (s.zone z))
        ∧ Submitted s t (.linkLost timeout :: zs.flatMap (fun z => linkReports z (s.zone z)))
        ∧ t.link.rate = s.link.rate ∧ t.link.receiver = s.link.receiver ∧ SameQueues s t
        ∧ t.link.awaitsReset = s.link.awaitsReset ∧ t.link.resend = s.link.resend
        ∧ TransmitterServed s t ∧ t.store = s.store ∧ t.device = s.device ∧ SamePlant s t
        ∧ t.pending = s.pending

/-! ## The resets -/

/-- R21, R73, R87, R109, R129, R147, R159, R172, R195, R196: as the last byte of the RESTART reply leaves TXD, every
block takes its soft-reset state, whether the moment is named SOFT_RESET or FRAME_SENT; at any other moment the
command SOFT_RESET changes nothing (model's choice, log entry 12). A transmitter found IDLE has first made its choice
(R183). -/
def Obligations.SoftResetRestoresTheBlocks : Prop :=
  (∀ s : State, ¬SendsRestartReply (chosen s) → exec .softReset s = .next (chosen s))
  ∧ ∀ s : State, SendsRestartReply (chosen s) →
      ∃ t, exec .softReset s = .next t ∧ exec .frameSent s = .next t
        ∧ t.store.free = s.store.free ∧ (∀ k, t.slot k = { s.slot k with useCount := 0 })
        ∧ (∀ z,
            let x := s.zone z
            t.zone z = {
              zr := if x.zr.state = .tripped then x.zr else .reset
              trip := x.trip
              ctl := ⟨0, 0, 0, false, .zero⟩
              exc := ⟨0, 0⟩
              share := ⟨0, false⟩
              frame := { x.frame with duty := 0, coarse := 0, fine := 0 }
              pin := decide (x.live.polarity = .activeLow)
              live := x.live
              staged := x.live
              pending := false
              restricted := false })
        ∧ (∀ i, t.sensor i = { s.sensor i with
              status := if i ∈ s.scan.live then .waiting else .unscanned
              seeded := if i ∈ s.scan.live then false else (s.sensor i).seeded
              invalids := 0
              valids := 0 })
        ∧ t.scan = { live := s.scan.live, pending := none,
                     converting := if s.scan.live = [] then none else some 0 }
        ∧ t.stop = ⟨false, 0, 0⟩ ∧ t.modulator = s.modulator
        ∧ t.device = { live := s.device.live, staged := s.device.live, pending := false }
        ∧ t.link = {
            rate := s.link.rate, receiver := .hunting, rxQueue := [], awaitsReset := false, retry := none,
            replies := [], tx := .idle, txd := [], runCount := 0,
            reports := [⟨0, .started .soft, .fresh⟩], nextSeq := 1,
            lost := 0, resend := none, connected := true,
            silence := if s.device.live.timeout = 0 then none else some s.device.live.timeout }
        ∧ t.pending = s.pending

/-- R20, R44, R72, R87, R108, R128, R131, R146, R158, R172, R173, R196: what a hard reset leaves, whatever the state
before it. The waiting commands are not the part's and stay. That the cycle which begins as the reset ends (R146) is
brought by the first CYCLE_START, so that none has begun yet, is the model's choice (log entry 13). -/
def Obligations.HardResetSetsEveryRecord : Prop :=
  ∀ (s : State) (cause : ResetCause) (baud1 baud0 : Bool),
    ∃ t, exec (.hardReset cause baud1 baud0) s = .next t
      ∧ t.store.free = 384 ∧ (∀ k, t.slot k = ⟨.empty, [], 0, none⟩)
      ∧ (∀ z, (t.zone z).zr = {
            state := .idle, causes := .none, target := .running, active := none, seg := 0, entered := false,
            elapsed := 0, origin := 0, stack := [], setpoint := 0, runMark := false, steps := 0, skip := false,
            holdBack := false, expired := false }
          ∧ (t.zone z).trip = none ∧ (t.zone z).ctl = ⟨0, 0, 0, false, .zero⟩ ∧ (t.zone z).exc = ⟨0, 0⟩
          ∧ (t.zone z).share = ⟨0, false⟩ ∧ (t.zone z).frame = ⟨0, 0, 0, 0, 0⟩ ∧ (t.zone z).pin = false
          ∧ (t.zone z).live = {
              feedback := none, kp := 64, ki := 4, floor := 0, ceiling := 4096, slew := none, fallback := 0,
              hold := .fallback, phase := 0, frameOffset := 0, weight := 0, reserve := 0,
              polarity := .activeHigh, guards := [], reports := ⟨true, true, true, true⟩ }
          ∧ (t.zone z).staged = (t.zone z).live ∧ (t.zone z).pending = false ∧ (t.zone z).restricted = false)
      ∧ (∀ i, t.sensor i = {
            gain := 1024, offset := 0, shift := 0, openAt := some 4095, shortAt := none, faultCount := 3,
            status := .unscanned, lastCode := 0, lastClass := .none, lastScaled := none, filtered := 0,
            seeded := false, invalids := 0, valids := 0 })
      ∧ t.scan = ⟨[], none, none⟩ ∧ t.stop = ⟨false, 0, 0⟩
      ∧ t.modulator = { counter := 0, tick := 0, fresh := true }
      ∧ t.device.live = { cycle := .ms8, governor := false, budget := 0, timeout := 20, ack := false, resend := 5 }
      ∧ t.device.staged = t.device.live ∧ t.device.pending = false
      ∧ t.link = {
          rate := (match baud1, baud0 with
            | false, false => .baud57600
            | false, true => .baud115200
            | true, false => .baud460800
            | true, true => .baud921600)
          receiver := .hunting, rxQueue := [], awaitsReset := false, retry := none, replies := [], tx := .idle,
          txd := [], runCount := 0
          reports := [⟨0, .started (match cause with | .powerOn => .powerOn | .resetPin => .resetPin), .fresh⟩]
          nextSeq := 1, lost := 0, resend := none, connected := true, silence := some 20 }
      ∧ t.pending = s.pending

/-! ## The run of a zone -/

/-- R25, R26, R28 to R31, R36, R43: a run update of an entered RAMP, SOAK or DRIVE charges its time, and with its
duration not reached and no skip request the segment stays: a RAMP moves the setpoint between origin and target. With
the duration reached the zone progresses to the next segment, a RAMP from its target; with a skip request it
progresses with the setpoint as it stood. R22, R23, R42, R43, R52: a run update at a waiting position (after a START,
a MARK with break or a chain limit) charges nothing and makes no end test: the zone progresses from the waiting
segment, and a skip request stays set. A step of a STEPPING zone is counted. -/
def Obligations.TimedSegmentsAreCharged : Prop :=
  (∀ (e : RunEnv) (r : ZoneRec) (g : Seg) (duration elapsed : Nat) (holdBack : Bool),
    Charged e r g duration elapsed holdBack → Updates r →
    (r.skip = false → elapsed < duration →
      let setpoint := if g.kind = some .ramp then rampAt r.origin g.target elapsed duration else r.setpoint
      e.executorStage r =
        { zr := { r with elapsed := elapsed, holdBack := holdBack, setpoint := setpoint, runMark := true
                         steps := if r.state = .stepping then r.steps - 1 else r.steps }
          reports := []
          regime := if g.kind = some .drive then .opened g.number else .closed setpoint
          released := false })
    ∧ (r.skip = false → duration ≤ elapsed →
      let u := e.progress (r.seg + 1)
        { r with elapsed := elapsed, holdBack := holdBack
                 setpoint := if g.kind = some .ramp then g.target else r.setpoint } []
      e.executorStage r = { u with zr := u.zr.countStep })
    ∧ (r.skip = true →
      let u := e.progress (r.seg + 1) { r with elapsed := elapsed, holdBack := holdBack, skip := false } []
      e.executorStage r = { u with zr := u.zr.countStep }))
  ∧ (∀ (e : RunEnv) (r : ZoneRec), Updates r → r.entered = false →
    (∀ g, e.prog[r.seg]? = some g → g.closedTimed = true → e.usable = true) →
      let u := e.progress r.seg r []
      e.executorStage r = { u with zr := { u.zr with
          steps := if u.zr.state = .stepping then u.zr.steps - 1 else u.zr.steps } }
      ∧ u.zr.skip = r.skip)
  ∧ ∀ (origin target : Int) (elapsed duration : Nat), 1 ≤ duration →
      min origin target ≤ rampAt origin target elapsed duration
      ∧ rampAt origin target elapsed duration ≤ max origin target
      ∧ rampAt origin target 0 duration = origin
      ∧ (duration ≤ elapsed → rampAt origin target elapsed duration = target)

/-- R25, R26, R32 to R35, R43: a run update of a banded STEP charges its settle timer when a duration is present, and
then ends it as SKIPPED, RELEASED, SETTLED or TIMEOUT_CONTINUE, or holds the zone as TIMEOUT_HOLD, by the first test
that applies; with none it stays current at its setpoint. -/
def Obligations.SettleStepsEndByTheFirstTest : Prop :=
  ∀ (e : RunEnv) (r : ZoneRec) (g : Seg) (band elapsed : Nat),
    e.prog[r.seg]? = some g → g.kind = some .step → g.band? = some band → r.entered = true → e.usable = true →
    Updates r → (elapsed = if r.runMark = true ∧ g.duration? ≠ none then r.elapsed + e.worth else r.elapsed) →
    let close := |e.pv - r.setpoint| ≤ (band : Int)
    let late := ∃ d, g.duration? = some d ∧ d ≤ elapsed
    let report (o : SettleOutcome) : List Report :=
      if e.live.reports.settle then [.settle e.zone r.seg o] else []
    let ended (r' : ZoneRec) (o : SettleOutcome) : Update :=
      let u := e.progress (r.seg + 1) r' (report o)
      { u with zr := u.zr.countStep }
    (r.skip = true →
      e.executorStage r = ended { r with elapsed := elapsed, skip := false, expired := false } .skipped)
    ∧ (r.skip = false → r.expired = true →
      e.executorStage r = ended { r with elapsed := elapsed, expired := false } .released)
    ∧ (r.skip = false → r.expired = false →
      (close → e.executorStage r = ended { r with elapsed := elapsed } .settled)
      ∧ (¬close → late → g.option = true →
        e.executorStage r = ended { r with elapsed := elapsed } .timeoutContinue)
      ∧ (¬close → late → g.option = false →
        let h := heldAs { r with elapsed := elapsed, expired := true } .settle .running
        ∃ regime, HeldRegime e h regime ∧ e.executorStage r =
          { zr := h
            reports := report .timeoutHold ++ moveReports e r.state .held .settle (.only .settle)
            regime := regime
            released := false })
      ∧ (¬close → ¬late → e.executorStage r =
          { zr := { r with elapsed := elapsed, runMark := true
                           steps := if r.state = .stepping then r.steps - 1 else r.steps }
            reports := []
            regime := .closed r.setpoint
            released := false }))

/-- R22, R27, R32, R37 to R42, R55, R67: what each zero-time segment does, and how the chain stops: at a timed
segment, which is entered; at END; at a MARK with break; at the seventeenth zero-time segment, which waits. The
position inside a zero-time segment is the model's reading (log entry 11). -/
def Obligations.ZeroTimeSegmentsAreExecuted : Prop :=
  ∀ (e : RunEnv) (n i : Nat) (r : ZoneRec) (reports : List Report) (g : Seg), e.prog[i]? = some g →
    let at_ : ZoneRec := { r with seg := i, entered := true, elapsed := 0 }
    let marks : List Report := if e.live.reports.mark then [.mark e.zone g.number g.option] else []
    (g.kind = some .rep →
      e.chain (n + 1) i r reports
        = e.chain n (i + 1) { at_ with stack := r.stack ++ [⟨i, g.number - 1⟩] } reports)
    ∧ (∀ outer l, g.kind = some .again → r.stack = outer ++ [l] →
      e.chain (n + 1) i r reports =
        if 0 < l.remaining then
          e.chain n (l.repeatAt + 1) { at_ with stack := outer ++ [⟨l.repeatAt, l.remaining - 1⟩] } reports
        else e.chain n (i + 1) { at_ with stack := outer } reports)
    ∧ (g.kind = some .mark → g.option = false →
      e.chain (n + 1) i r reports = e.chain n (i + 1) at_ (reports ++ marks))
    ∧ (g.kind = some .mark → g.option = true →
      e.chain (n + 1) i r reports = ({ at_ with seg := i + 1, entered := false }, reports ++ marks, .broke))
    ∧ (g.kind = some .fin → e.chain (n + 1) i r reports = (at_, reports, .finished g.option))
    ∧ (g.kind = some .step → g.band? = none →
      e.chain (n + 1) i r reports = e.chain n (i + 1) { at_ with setpoint := g.target } reports)
    ∧ (∀ k, g.kind = some k → (k = .ramp ∨ k = .soak ∨ k = .drive ∨ (k = .step ∧ g.band? ≠ none)) →
      e.chain n i r reports =
        ({ at_ with
            holdBack := false
            expired := false
            origin := if k = .ramp then r.setpoint else r.origin
            setpoint := if k = .step then g.target else r.setpoint },
          reports ++ (if e.live.reports.segment then [.segment e.zone i k] else []), .entered))
    ∧ (∀ k, g.kind = some k → (k = .rep ∨ k = .again ∨ k = .mark ∨ k = .fin ∨ (k = .step ∧ g.band? = none)) →
      e.chain 0 i r reports = ({ r with seg := i, entered := false }, reports, .limit))

/-- R40 to R42, R55, R58, R67: how the progress stage ends by the way its chain of at most sixteen zero-time segments
stopped: a segment entered without its usable sensor holds the zone; a limit leaves it waiting with the run mark
clear; a break holds it; an END releases the program and leaves the zone IDLE, or KEEPING as a keeping boundary gives.
-/
def Obligations.TheChainsStopDecidesTheFrame : Prop :=
  ∀ (e : RunEnv) (i : Nat) (r r' : ZoneRec) (before reports : List Report),
    let left : ZoneRec := { r' with active := none, steps := 0, runMark := false }
    (∀ g, e.chain 16 i r before = (r', reports, .entered) → e.prog[r'.seg]? = some g → g.closedTimed = true →
      e.usable = false →
      ∃ regime, HeldRegime e (heldAs r' .sensor .running) regime ∧ e.progress i r before =
        { zr := heldAs r' .sensor .running
          reports := reports ++ moveReports e r'.state .held .sensor (.only .sensor)
          regime := regime
          released := false })
    ∧ (∀ g, e.chain 16 i r before = (r', reports, .entered) → e.prog[r'.seg]? = some g → g.kind ≠ some .ramp →
      (g.kind = some .drive ∨ (g.closedTimed = true ∧ e.usable = true)) →
      e.progress i r before =
        { zr := { r' with runMark := true }
          reports := reports
          regime := if g.kind = some .drive then .opened g.number else .closed r'.setpoint
          released := false })
    ∧ (∀ g d, e.chain 16 i r before = (r', reports, .entered) → e.prog[r'.seg]? = some g → g.kind = some .ramp →
      e.usable = true → g.duration? = some d →
      e.progress i r before =
        { zr := { r' with runMark := true, setpoint := rampAt r'.origin g.target r'.elapsed d }
          reports := reports
          regime := .closed (rampAt r'.origin g.target r'.elapsed d)
          released := false })
    ∧ (e.chain 16 i r before = (r', reports, .limit) →
      e.progress i r before =
        { zr := { r' with runMark := false }
          reports := reports
          regime := if e.live.feedback = none then .zero else .closed r'.setpoint
          released := false })
    ∧ (e.chain 16 i r before = (r', reports, .broke) →
      ∃ regime, HeldRegime e (heldAs r' .brk .running) regime ∧ e.progress i r before =
        { zr := heldAs r' .brk .running
          reports := reports ++ moveReports e r'.state .held .brk (.only .brk)
          regime := regime
          released := false })
    ∧ (e.chain 16 i r before = (r', reports, .finished false) →
      e.progress i r before =
        { zr := { left with state := .idle }
          reports := reports ++ moveReports e r'.state .idle .fin r'.causes
          regime := .zero
          released := true })
    ∧ (e.chain 16 i r before = (r', reports, .finished true) → e.usable = true →
      e.progress i r before =
        { zr := { left with state := .keeping }
          reports := reports ++ moveReports e r'.state .keeping .fin r'.causes
          regime := .closed r'.setpoint
          released := true })
    ∧ (e.chain 16 i r before = (r', reports, .finished true) → e.usable = false → e.live.feedback = none →
      e.progress i r before =
        { zr := { left with state := .keeping }
          reports := reports ++ moveReports e r'.state .keeping .fin r'.causes
          regime := .zero
          released := true })
    ∧ (e.chain 16 i r before = (r', reports, .finished true) → e.usable = false → e.live.feedback ≠ none →
      let h := heldAs { left with state := .keeping } .sensor .keeping
      ∃ regime, HeldRegime e h regime ∧ e.progress i r before =
        { zr := h
          reports := reports ++ moveReports e r'.state .keeping .fin r'.causes
            ++ moveReports e .keeping .held .sensor (.only .sensor)
          regime := regime
          released := true })

/-- R53, R54, R57, R59, R60: the executor's stage of a zone that performs no run update, and of one whose feedback
check fails: a held boundary freezes the zone's time and takes its regime from the hold action; a keeping boundary
regulates, holds for SENSOR or hands over zero; a STEPPING zone without steps holds for STEP; IDLE and TRIPPED hand
over zero. -/
def Obligations.BoundariesWithoutARunUpdate : Prop :=
  ∀ (e : RunEnv) (r : ZoneRec),
    let holds (c : Cause) (why : StateReason) (target : Target) : Prop :=
      ∃ regime, HeldRegime e (heldAs r c target) regime ∧ e.executorStage r =
        { zr := heldAs r c target, reports := moveReports e r.state .held why (.only c), regime := regime,
          released := false }
    (r.state = .held → ∃ regime, HeldRegime e r regime ∧ e.executorStage r =
      { zr := { r with runMark := false }, reports := [], regime := regime, released := false })
    ∧ (r.state = .keeping → e.usable = true →
      e.executorStage r = { zr := r, reports := [], regime := .closed r.setpoint, released := false })
    ∧ (r.state = .keeping → e.usable = false → e.live.feedback ≠ none → holds .sensor .sensor .keeping)
    ∧ (r.state = .keeping → e.usable = false → e.live.feedback = none →
      e.executorStage r = { zr := r, reports := [], regime := .zero, released := false })
    ∧ (r.state = .stepping → r.steps = 0 → holds .step .stepDone .running)
    ∧ (r.state = .idle ∨ r.state = .tripped →
      e.executorStage r = { zr := { r with runMark := false }, reports := [], regime := .zero, released := false })
    ∧ (∀ g, Updates r → e.prog[r.seg]? = some g → g.closedTimed = true → e.usable = false →
      holds .sensor .sensor .running)

/-! ## Control law and governor -/

/-- R76 to R84: the demand and the accumulator of a frame by its regime, with every quotient truncating toward zero
and every sum limited as the rules give. -/
def Obligations.ControlLawOfAFrame : Prop :=
  ∀ (e : RunEnv) (c : Control), e.live.floor ≤ e.live.ceiling →
    let p := e.live
    (∀ setpoint, e.usable = true →
      let err : Int := max (-32767) (min 32767 (setpoint - e.pv))
      let acc : Int := if c.lastRegime = .openLoop then c.lastGrant * 256 else c.acc
      let cand : Int := max 0 (min 1048576 (acc + p.ki * err))
      let raw : Int := (p.kp * err).tdiv 64 + cand.tdiv 256
      let d := demandOf e c (.closed setpoint)
      (d.demand : Int) = limitedTo p c.lastGrant raw ∧ d.kind = .closedLoop
      ∧ (0 < err → (limitedTo p c.lastGrant raw < raw ∨ c.trimmedLast = true) → d.acc = acc)
      ∧ (err < 0 → raw < limitedTo p c.lastGrant raw → d.acc = acc)
      ∧ ((0 < err → ¬limitedTo p c.lastGrant raw < raw ∧ c.trimmedLast = false) →
          (err < 0 → ¬raw < limitedTo p c.lastGrant raw) → d.acc = cand))
    ∧ (∀ setpoint, e.usable = false →
      demandOf e c (.closed setpoint) = { demand := min p.fallback p.ceiling, acc := c.acc, kind := .fallback })
    ∧ (∀ duty : Nat, ((demandOf e c (.opened duty)).demand : Int) = limitedTo p c.lastGrant duty
      ∧ (demandOf e c (.opened duty)).acc = c.acc ∧ (demandOf e c (.opened duty)).kind = .openLoop)
    ∧ demandOf e c .fallback = { demand := min p.fallback p.ceiling, acc := c.acc, kind := .fallback }
    ∧ demandOf e c .zero = { demand := 0, acc := c.acc, kind := .zero }
    ∧ ∀ regime, (demandOf e c regime).demand ≤ p.ceiling

/-- R149 to R151, R155: the governor's stage returns the zone's holding, grants, draws and reports a changed trim. The
grant is at most the demand and at least the smaller of demand and reserve, and the draw at most the free amount. The
free amount is taken as 0 where it would be negative (model's choice, log entry 14). -/
def Obligations.GrantFollowsTheRule : Prop :=
  ∀ (s : State) (z : ZoneId) (demand : Nat),
    let x := s.zone z
    let p := x.live
    let counted (y : Zone) : Nat :=
      if y.pending then max (y.live.weight * y.live.reserve) (y.staged.weight * y.staged.reserve)
      else y.live.weight * y.live.reserve
    let free := s.device.live.budget * 4096 - (allZones.map (fun y => counted (s.zone y))).sum
      - (allZones.map (fun y => if y = z then 0 else (s.zone y).share.holding)).sum
    let g := (s.governorStage z demand).1
    let t := (s.governorStage z demand).2
    (s.device.live.governor = true → 0 < p.weight →
      g = min demand (p.reserve + free / p.weight)
      ∧ (t.zone z).share.holding = p.weight * (g - p.reserve)
      ∧ min demand p.reserve ≤ g ∧ (t.zone z).share.holding ≤ free)
    ∧ (s.device.live.governor = false ∨ p.weight = 0 → g = demand ∧ (t.zone z).share.holding = 0)
    ∧ g ≤ demand
    ∧ t.zone z = { x with share := { holding := (t.zone z).share.holding, trimmed := decide (g < demand) } }
    ∧ (∀ y, y ≠ z → t.zone y = s.zone y)
    ∧ t.link = (if decide (g < demand) = x.share.trimmed then s.link
        else s.link.submit (.budget z (decide (g < demand))))
    ∧ t.store = s.store ∧ t.device = s.device ∧ SamePlant s t ∧ t.pending = s.pending

/-! ## The modulator -/

/-- R130, R136 to R138: within a cycle a tick brings the next of the ticks up to 255 and drives every pin at the level
of its activity. When a cycle start is due (tick 255 has come, or no cycle has begun since the hard reset) the command
TICK changes nothing, since the next tick is then a cycle's tick 0 (model's choice, log entry 13). A transmitter found
IDLE has first made its choice (R183). -/
def Obligations.TickDrivesEveryPin : Prop :=
  ∀ s : State,
    (¬CycleDue s → ∃ t, exec .tick s = .next t
      ∧ t.modulator = { s.modulator with tick := s.modulator.tick + 1 }
      ∧ (∀ z, PinShows (t.zone z) (s.modulator.tick + 1) ∧ t.zone z = { s.zone z with pin := (t.zone z).pin })
      ∧ t.store = s.store ∧ t.sensors = s.sensors ∧ t.scan = s.scan ∧ t.stop = s.stop ∧ t.device = s.device
      ∧ t.link = (chosen s).link ∧ t.pending = s.pending)
    ∧ (CycleDue s → exec .tick s = .next (chosen s))

/-- R135, R136: a frame of sixteen cycles carries exactly the active ticks of its loaded duty, whatever its phase, and
positions from 16 onward carry none. -/
def Obligations.FrameCarriesItsDuty : Prop :=
  ∀ (duty phase : Nat), duty ≤ 4096 →
    let at_ (k : Nat) : FrameRec := { duty := duty, coarse := duty / 16, fine := duty % 16, phase := phase, pos := k }
    ((List.range 16).map (fun k => (List.range 256).countP (fun t => (at_ k).activeAt t))).sum = duty
    ∧ (∀ k t, 16 ≤ k → (at_ k).activeAt t = false)
    ∧ ∀ k t, t < 256 → ((at_ k).activeAt t = true ↔ TickActive (at_ k) t)

/-- R53, R62, R75, R130 to R134, R150 to R152, R166, R171, R191: where a cycle start is due, it applies a pending
device commit, takes the counter's new value and then the boundaries that fall at it, in the order the command gives:
each zone is what its five stages leave, its grant made from the free amount that the boundaries before it have left;
the frame positions of the other zones rise by one, and every pin is driven for tick 0. The silence timer may expire
at the same instant: then the link becomes LOST, and each zone is held before its boundary, which is then a held one,
or after it, as the order says zone by zone. The model's own: SENT and DUE reports go before COMMITTED is submitted
(DEDUCED, log entry 17); a NEW report in transmission across a change of acknowledgement stays queued with its go-back
mark (log entry 24); the order is an operand (log entry 8); a free amount below 0 counts as 0 (log entry 14);
LINK_LOST carries the running timer's timeout (DEDUCED, log entry 22); an expiry of a timer that cannot expire does
not fall (log entry 12); the command changes nothing within a cycle, and the first one after a hard reset is the cycle
start of R146 (log entry 13). A transmitter found IDLE has first made its choice (R183). -/
def Obligations.CycleStartTakesTheBoundaries : Prop :=
  (∀ (s : State) (order : List CycleEvent), ¬CycleDue s →
      exec (.cycleStart order) s = .next (chosen s))
  ∧ (∀ (s : State) (order : List CycleEvent), CycleOrder order → ¬CanExpire s order →
      exec (.cycleStart order) s = exec (.cycleStart (order.filter (fun e => !e.isLink))) s)
  ∧ ∀ (s : State) (early late : List CycleEvent),
      let order := early ++ .start :: late
      CycleDue s → CycleOrder order → (.expiry ∈ order → CanExpire s order) →
      let due := (order.filterMap boundaryOf).filter (fun z => decide ((s.zone z).live.frameOffset = counterAfter s))
      ∃ t, exec (.cycleStart order) s = .next t
        ∧ t.modulator = { counter := counterAfter s, tick := 0, fresh := false }
        ∧ t.device = { live := nextDevice s, staged := s.device.staged, pending := false }
        ∧ (∀ before z after, due = before ++ z :: after → BoundaryTaken s t order before z)
        ∧ (∀ z, ¬AtBoundary s z →
            let x := if .hold z ∈ order then linkHeld (s.zone z) else s.zone z
            t.zone z = { x with frame := { x.frame with pos := x.frame.pos + 1 }, pin := (t.zone z).pin })
        ∧ (∀ z, PinShows (t.zone z) 0)
        ∧ t.store.free = s.store.free
        ∧ (∀ k, t.slot k = { s.slot k with
            useCount := (s.slot k).useCount - allZones.countP (fun z =>
              decide ((s.zone z).live.frameOffset = counterAfter s) && (updateAt s order z).released
                && decide ((s.zone z).zr.active = some k)) })
        ∧ ReportsOf
            ((((.start :: late).flatMap (cycleReports s t order)).foldl Link.submit
              (relinked s ((early.flatMap (cycleReports s t order)).foldl Link.submit s.link)))) t
        ∧ t.link.resend = (relinked s s.link).resend
        ∧ t.link.connected = (if .expiry ∈ order then false else s.link.connected)
        ∧ t.link.silence = (if .expiry ∈ order then none else (relinked s s.link).silence)
        ∧ t.link.rate = s.link.rate ∧ t.link.receiver = s.link.receiver
        ∧ t.link.awaitsReset = s.link.awaitsReset ∧ SameQueues s t ∧ TransmitterServed s t
        ∧ t.sensors = s.sensors ∧ t.scan = s.scan ∧ t.stop = s.stop ∧ t.pending = s.pending

/-! ## Sensors and guards -/

/-- R88, R93, R98 to R105, R112 to R115: a conversion completion classifies, scales and filters the code, moves the
counts and the status, reports an entry into or a departure from FAILED, and offers the reading to every zone's guard
in zone number order; then the next entry's conversion, the next pass, or the takeover of a pending list begins. The
model's own: an IDLE converter completes nothing (log entry 12); the takeover's reports come in the order the command
gives, which the rule leaves open (log entry 8); outside the invariants an UNSCANNED sensor keeps its status and the
first of two guard entries on one sensor is taken (log entry 19). A transmitter found IDLE has first made its choice
(R183). -/
def Obligations.CompletionHandlesTheReading : Prop :=
  (∀ (s : State) (code : BitVec 12) (order : List Nat), s.scan.converting = none →
    exec (.conversionCompletion code order) s = .next (chosen s))
  ∧ ∀ (s : State) (code : BitVec 12) (zs : List SensorId) (k : Nat) (i : SensorId),
      s.scan.converting = some k → s.scan.live[k]? = some i → zs.Perm allSensors →
      let c : Instr := .conversionCompletion code (zs.map Fin.val)
      let old := s.sensor i
      let new := sensorAfter old code.toNat
      let enters := decide (old.status ≠ .failed ∧ new.status = .failed)
      let outcome (z : ZoneId) := guardOutcome (s.zone z) z i new enters
      let Handled (t : State) : Prop :=
        t.sensor i = new ∧ (∀ j, j ≠ i → t.sensor j = s.sensor j)
        ∧ (∀ z, t.zone z = (outcome z).1)
        ∧ Submitted s t ((if old.status = .failed ↔ new.status = .failed then []
            else [Report.sensorState i new.status]) ++ allZones.flatMap (fun z => (outcome z).2))
        ∧ t.store.free = s.store.free
        ∧ (∀ j, t.slot j = { s.slot j with
            useCount := (s.slot j).useCount - allZones.countP (fun z =>
              (s.zone z).zr.state.isActive && decide ((outcome z).1.zr.state = .tripped)
                && decide ((s.zone z).zr.active = some j)) })
        ∧ t.stop = s.stop ∧ t.modulator = s.modulator ∧ t.device = s.device ∧ t.pending = s.pending
        ∧ SameLine s t ∧ SameQueues s t
      (k + 1 < s.scan.live.length ∨ s.scan.pending = none →
        ∃ t, exec c s = .next t ∧ Handled t ∧ TransmitterServed s t
          ∧ t.scan = { s.scan with converting := some (if k + 1 < s.scan.live.length then k + 1 else 0) })
      ∧ (k + 1 = s.scan.live.length → s.scan.pending ≠ none →
        ∃ u, Handled u ∧ u.scan = s.scan ∧ u.link.tx = (chosen s).link.tx ∧ u.link.txd = (chosen s).link.txd
          ∧ u.link.runCount = (chosen s).link.runCount
          ∧ exec c s = .next (chosen (u.takePending zs).beginPass))

/-- R91, R93 to R95: at a takeover the pending list is checked again; a list that omits no sensor in use becomes the
live list, every sensor's status follows the two lists, and SCAN_TAKEN follows the reports of the sensors that left
FAILED; otherwise the list is withdrawn, with the lowest-numbered sensor that it omits. The order of the reports of
sensors that left FAILED, which the rules leave open, is an operand (model's choice, log entry 8). -/
def Obligations.TakeoverFollowsTheTwoLists : Prop :=
  ∀ (s : State) (zs list : List SensorId), zs.Perm allSensors → s.scan.pending = some list →
    let t := s.takePending zs
    let same := t.zones = s.zones ∧ t.store = s.store ∧ t.stop = s.stop ∧ t.modulator = s.modulator
      ∧ t.device = s.device ∧ t.pending = s.pending
    ((∀ i, InUse s i → i ∈ list) →
      t.scan = { s.scan with live := list, pending := none }
      ∧ (∀ i, t.sensor i =
          if i ∈ list then
            (if i ∈ s.scan.live then s.sensor i
              else { s.sensor i with status := .waiting, invalids := 0, valids := 0, seeded := false })
          else if i ∈ s.scan.live then { s.sensor i with status := .unscanned, invalids := 0, valids := 0 }
          else { s.sensor i with status := .unscanned })
      ∧ t.link = ((zs.filter (fun i => decide ((s.sensor i).status = .failed ∧ i ∉ list))).map
            (fun i => Report.sensorState i .unscanned) ++ [Report.scanTaken list.length]).foldl Link.submit s.link
      ∧ same)
    ∧ (∀ i, InUse s i → i ∉ list → (∀ j, j < i → InUse s j → j ∈ list) →
      t.scan = { s.scan with pending := none } ∧ t.sensors = s.sensors
      ∧ t.link = s.link.submit (.scanWithdrawn s.scan.live.length i) ∧ same)

/-- R124 to R127: three low samples in a row assert the STOP input and trip the active zones, STOP_STATE following
their TRIP reports; three high samples release it; a sample of the other level returns the count to 0. A transmitter
found IDLE has first made its choice (R183). -/
def Obligations.StopSamplesAreQualified : Prop :=
  ∀ s : State,
    let counted (high : Bool) (stop : StopInput) : Prop := exec (.stopSample high) s = .next { chosen s with stop := stop }
    (s.stop.asserted = false →
      counted true { s.stop with lowCount := 0 }
      ∧ (s.stop.lowCount < 2 → counted false { s.stop with lowCount := s.stop.lowCount + 1 })
      ∧ (2 ≤ s.stop.lowCount →
        ∃ t, exec (.stopSample false) s = .next t ∧ t.stop = ⟨true, 0, 0⟩
          ∧ TrippedAll s t .stopInput ∧ ReleasedAll s t
          ∧ Submitted s t (tripReports s .stopInput
              ++ [.stopAsserted (allZones.countP (fun z => (s.zone z).zr.state.isActive))])
          ∧ SameLine s t ∧ SameQueues s t ∧ TransmitterServed s t
          ∧ t.sensors = s.sensors ∧ t.scan = s.scan ∧ t.modulator = s.modulator ∧ t.device = s.device
          ∧ t.pending = s.pending))
    ∧ (s.stop.asserted = true →
      counted false { s.stop with highCount := 0 }
      ∧ (s.stop.highCount < 2 → counted true { s.stop with highCount := s.stop.highCount + 1 })
      ∧ (2 ≤ s.stop.highCount →
        ∃ t, exec (.stopSample true) s = .next t ∧ t.stop = ⟨false, 0, 0⟩
          ∧ Submitted s t [.stopReleased] ∧ SameLine s t ∧ SameQueues s t ∧ TransmitterServed s t
          ∧ t.store = s.store ∧ t.zones = s.zones ∧ t.sensors = s.sensors ∧ t.scan = s.scan
          ∧ t.modulator = s.modulator ∧ t.device = s.device ∧ t.pending = s.pending))

/-! ## Invariants -/

/-- R1, R17: every step conserves the pool of segments and keeps each slot's use count the number of zones that hold
its program, a program in use being SEALED. -/
def Obligations.StepsConserveTheProgramStore : Prop :=
  ∀ s t : State, step s = .next t → PoolConserved s → UseCountsAgree s →
    PoolConserved t ∧ UseCountsAgree t

/-- R47, R116, R125, R137, R150, R160, R161: what every step keeps of the zones: causes exactly when HELD, a trip
record exactly when TRIPPED, no active zone while the STOP input is asserted, inactive outputs of IDLE and TRIPPED
zones, the restricted mark on IDLE zones alone, sound live records, agreeing trim flags. -/
def Obligations.StepsKeepTheZonesConsistent : Prop :=
  ∀ s t : State, step s = .next t →
    CausesExactlyWhenHeld s → RecordsExactlyWhenTripped s → NoneActiveWhileStopped s →
    OutputsOffWhenInactive s → RestrictedOnlyIdle s → LiveRecordsSound s → TrimFlagsAgree s →
    CausesExactlyWhenHeld t ∧ RecordsExactlyWhenTripped t ∧ NoneActiveWhileStopped t
    ∧ OutputsOffWhenInactive t ∧ RestrictedOnlyIdle t ∧ LiveRecordsSound t ∧ TrimFlagsAgree t

/-- R173, R179, R184, R186, R188, R192: every step keeps the queues of the link within their places, the window of
sent and unacknowledged reports at most 8 and ahead of the NEW ones, TXD at the frame in transmission, and the silence
timer stopped while the link is LOST. R88, R89, R130, R131: every step keeps the converter IDLE exactly when the live
list is empty, and a sensor UNSCANNED exactly when it is unlisted; and the cycle counter and the tick within their
ranges. -/
def Obligations.StepsKeepLinkAndScanConsistent : Prop :=
  (∀ s t : State, step s = .next t →
     (QueuesBounded s → QueuesBounded t)
     ∧ (QueuesBounded s → WindowKept s → WindowKept t)
     ∧ (TxdFollows s → TxdFollows t)
     ∧ (SilenceStoppedWhenLost s → SilenceStoppedWhenLost t))
  ∧ (∀ s t : State, step s = .next t →
       (ScanConsistent s → ScanConsistent t) ∧ (CycleInRange s → CycleInRange t))

/-- The machine after reset meets every invariant that the steps keep. -/
def Obligations.ResetMeetsTheInvariants : Prop :=
  PoolConserved State.reset ∧ UseCountsAgree State.reset ∧ CausesExactlyWhenHeld State.reset
  ∧ RecordsExactlyWhenTripped State.reset ∧ NoneActiveWhileStopped State.reset
  ∧ OutputsOffWhenInactive State.reset ∧ RestrictedOnlyIdle State.reset ∧ LiveRecordsSound State.reset
  ∧ TrimFlagsAgree State.reset ∧ QueuesBounded State.reset ∧ WindowKept State.reset ∧ TxdFollows State.reset
  ∧ SilenceStoppedWhenLost State.reset ∧ ScanConsistent State.reset ∧ CycleInRange State.reset
end

