-- ==== Sys2Proof/Laws/Forms.lean ====
section
/-! SUPPORT. What a trip record and a report carry on the wire, field by field (R202, R210, R213). -/

namespace Sys2Proof.Machine

theorem zoneStateCode_eq (x : ZoneState) : zoneStateCode x = x.code := by cases x <;> decide

theorem reasonCode_eq (x : StateReason) : reasonCode x = x.code := by cases x <;> decide

theorem tripCauseCode_eq (x : TripCause) : tripCauseCode x = x.code := by cases x <;> decide

theorem causeBits_eq (c : Causes) : causeBits c = c.code := by
  obtain ⟨a, b, c, d, e, f⟩ := c
  revert a b c d e f
  decide

/-- The high byte of sixteen bits. -/
theorem extract_high (n : Nat) : (BitVec.ofNat 16 n).extractLsb' 8 8 = byte (n / 256) := by
  apply BitVec.eq_of_toNat_eq
  simp only [byte, BitVec.extractLsb'_toNat, BitVec.toNat_ofNat, Nat.shiftRight_eq_div_pow]
  omega

/-- The low byte of sixteen bits. -/
theorem extract_low (n : Nat) : (BitVec.ofNat 16 n).extractLsb' 0 8 = byte n := by
  apply BitVec.eq_of_toNat_eq
  simp [byte, BitVec.extractLsb'_toNat]

theorem tripForm_eq (t : TripRec) : tripForm t = t.bytes := by
  obtain ⟨c, g, p, b, n⟩ := t
  have signed (r : Int) : BitVec.ofInt 16 r = BitVec.ofNat 16 (r % 65536).toNat := by
    apply BitVec.eq_of_toNat_eq
    simp only [BitVec.toNat_ofInt, BitVec.toNat_ofNat]
    omega
  have flags : ∀ a b c : Bool,
      bits a b c false false false false false = byte (flagBit a 1 + flagBit b 2 + flagBit c 4) := by decide
  rcases g with _ | ⟨e, i, _ | r⟩ <;> rcases p with _ | ⟨k, j⟩ <;>
    simp [tripForm, TripRec.bytes, tripCauseCode_eq, zoneStateCode_eq, flags, signed, extract_high, extract_low,
      beS16, be16, byte]

theorem reportForm_eq (r : Report) : reportForm r = (r.code, r.payload) := by
  cases r with
  | trip z t => simp [reportForm, Report.code, Report.payload, tripForm_eq, byte]
  | lost n => simp [reportForm, Report.code, Report.payload, be16, extract_high, extract_low]
  | zoneState z old new why causes =>
    simp [reportForm, Report.code, Report.payload, zoneStateCode_eq, reasonCode_eq, causeBits_eq, byte]
  | started c => cases c <;> rfl
  | committed z o => cases z <;> cases o <;> rfl
  | segment z i k => cases k <;> rfl
  | mark z tag brk => cases brk <;> rfl
  | settle z i o => cases o <;> rfl
  | sensorState i st => cases st <;> rfl
  | budget z trimmed => cases trimmed <;> rfl
  | linkError | linkLost | linkRestored | scanTaken | scanWithdrawn | stopAsserted | stopReleased => rfl

end Sys2Proof.Machine
end

