-- ==== Sys2Proof/Laws/State.lean ====
section
/-! SUPPORT. One lemma per field per update of the state, so that no later proof unfolds a record update. -/

namespace Sys2Proof.Machine

/-! ## One zone, one slot, one sensor -/

@[simp] theorem State.zone_setZone (s : State) (z y : ZoneId) (x : Zone) :
    (s.setZone z x).zone y = if y = z then x else s.zone y := by
  by_cases h : y = z
  · subst h; simp [State.zone, State.setZone]
  · have h' : z.val ≠ y.val := fun e => h (Fin.ext e.symm)
    simp [State.zone, State.setZone, h, h']

@[simp] theorem State.slot_setSlot (s : State) (k j : SlotId) (x : Slot) :
    (s.setSlot k x).slot j = if j = k then x else s.slot j := by
  by_cases h : j = k
  · subst h; simp [State.slot, State.setSlot]
  · have h' : k.val ≠ j.val := fun e => h (Fin.ext e.symm)
    simp [State.slot, State.setSlot, h, h']

@[simp] theorem State.sensor_setSensor (s : State) (i j : SensorId) (x : Sensor) :
    (s.setSensor i x).sensor j = if j = i then x else s.sensor j := by
  by_cases h : j = i
  · subst h; simp [State.sensor, State.setSensor]
  · have h' : i.val ≠ j.val := fun e => h (Fin.ext e.symm)
    simp [State.sensor, State.setSensor, h, h']

@[simp] theorem State.zone_mapZones (s : State) (f : Zone → Zone) (z : ZoneId) :
    (s.mapZones f).zone z = f (s.zone z) := by
  simp [State.zone, State.mapZones]

@[simp] theorem State.setSlot_free (s : State) (k : SlotId) (x : Slot) :
    (s.setSlot k x).store.free = s.store.free := rfl

/-- Two states with the same zones are equal zone by zone, and conversely. -/
theorem State.zones_eq_iff (s t : State) : t.zones = s.zones ↔ ∀ z, t.zone z = s.zone z := by
  constructor
  · intro h z; simp [State.zone, h]
  · intro h
    apply Vector.ext
    intro i hi
    exact h ⟨i, hi⟩

/-- Two states with the same sensors are equal sensor by sensor, and conversely. -/
theorem State.sensors_eq_iff (s t : State) : t.sensors = s.sensors ↔ ∀ i, t.sensor i = s.sensor i := by
  constructor
  · intro h z; simp [State.sensor, h]
  · intro h
    apply Vector.ext
    intro i hi
    exact h ⟨i, hi⟩

/-- Two states with the same store are equal in the free count and slot by slot, and conversely. -/
theorem State.store_eq_iff (s t : State) :
    t.store = s.store ↔ t.store.free = s.store.free ∧ ∀ k, t.slot k = s.slot k := by
  constructor
  · intro h; simp [State.slot, h]
  · intro ⟨h1, h2⟩
    have h3 : t.store.slots = s.store.slots := by
      apply Vector.ext
      intro i hi
      exact h2 ⟨i, hi⟩
    cases hs : s.store; cases ht : t.store
    simp_all

/-! ## Fields that an update leaves as they were -/

@[simp] theorem State.setZone_store (s : State) (z : ZoneId) (x : Zone) : (s.setZone z x).store = s.store := rfl
@[simp] theorem State.setZone_sensors (s : State) (z : ZoneId) (x : Zone) : (s.setZone z x).sensors = s.sensors := rfl
@[simp] theorem State.setZone_scan (s : State) (z : ZoneId) (x : Zone) : (s.setZone z x).scan = s.scan := rfl
@[simp] theorem State.setZone_stop (s : State) (z : ZoneId) (x : Zone) : (s.setZone z x).stop = s.stop := rfl
@[simp] theorem State.setZone_modulator (s : State) (z : ZoneId) (x : Zone) : (s.setZone z x).modulator = s.modulator := rfl
@[simp] theorem State.setZone_device (s : State) (z : ZoneId) (x : Zone) : (s.setZone z x).device = s.device := rfl
@[simp] theorem State.setZone_link (s : State) (z : ZoneId) (x : Zone) : (s.setZone z x).link = s.link := rfl
@[simp] theorem State.setZone_pending (s : State) (z : ZoneId) (x : Zone) : (s.setZone z x).pending = s.pending := rfl
@[simp] theorem State.setZone_slot (s : State) (z : ZoneId) (x : Zone) (k' : SlotId) : (s.setZone z x).slot k' = s.slot k' := rfl
@[simp] theorem State.setZone_sensor (s : State) (z : ZoneId) (x : Zone) (i' : SensorId) : (s.setZone z x).sensor i' = s.sensor i' := rfl

@[simp] theorem State.setSlot_zones (s : State) (k : SlotId) (x : Slot) : (s.setSlot k x).zones = s.zones := rfl
@[simp] theorem State.setSlot_sensors (s : State) (k : SlotId) (x : Slot) : (s.setSlot k x).sensors = s.sensors := rfl
@[simp] theorem State.setSlot_scan (s : State) (k : SlotId) (x : Slot) : (s.setSlot k x).scan = s.scan := rfl
@[simp] theorem State.setSlot_stop (s : State) (k : SlotId) (x : Slot) : (s.setSlot k x).stop = s.stop := rfl
@[simp] theorem State.setSlot_modulator (s : State) (k : SlotId) (x : Slot) : (s.setSlot k x).modulator = s.modulator := rfl
@[simp] theorem State.setSlot_device (s : State) (k : SlotId) (x : Slot) : (s.setSlot k x).device = s.device := rfl
@[simp] theorem State.setSlot_link (s : State) (k : SlotId) (x : Slot) : (s.setSlot k x).link = s.link := rfl
@[simp] theorem State.setSlot_pending (s : State) (k : SlotId) (x : Slot) : (s.setSlot k x).pending = s.pending := rfl
@[simp] theorem State.setSlot_zone (s : State) (k : SlotId) (x : Slot) (z' : ZoneId) : (s.setSlot k x).zone z' = s.zone z' := rfl
@[simp] theorem State.setSlot_sensor (s : State) (k : SlotId) (x : Slot) (i' : SensorId) : (s.setSlot k x).sensor i' = s.sensor i' := rfl

@[simp] theorem State.setSensor_store (s : State) (i : SensorId) (x : Sensor) : (s.setSensor i x).store = s.store := rfl
@[simp] theorem State.setSensor_zones (s : State) (i : SensorId) (x : Sensor) : (s.setSensor i x).zones = s.zones := rfl
@[simp] theorem State.setSensor_scan (s : State) (i : SensorId) (x : Sensor) : (s.setSensor i x).scan = s.scan := rfl
@[simp] theorem State.setSensor_stop (s : State) (i : SensorId) (x : Sensor) : (s.setSensor i x).stop = s.stop := rfl
@[simp] theorem State.setSensor_modulator (s : State) (i : SensorId) (x : Sensor) : (s.setSensor i x).modulator = s.modulator := rfl
@[simp] theorem State.setSensor_device (s : State) (i : SensorId) (x : Sensor) : (s.setSensor i x).device = s.device := rfl
@[simp] theorem State.setSensor_link (s : State) (i : SensorId) (x : Sensor) : (s.setSensor i x).link = s.link := rfl
@[simp] theorem State.setSensor_pending (s : State) (i : SensorId) (x : Sensor) : (s.setSensor i x).pending = s.pending := rfl
@[simp] theorem State.setSensor_zone (s : State) (i : SensorId) (x : Sensor) (z' : ZoneId) : (s.setSensor i x).zone z' = s.zone z' := rfl
@[simp] theorem State.setSensor_slot (s : State) (i : SensorId) (x : Sensor) (k' : SlotId) : (s.setSensor i x).slot k' = s.slot k' := rfl

@[simp] theorem State.mapZones_store (s : State) (f : Zone → Zone) : (s.mapZones f).store = s.store := rfl
@[simp] theorem State.mapZones_sensors (s : State) (f : Zone → Zone) : (s.mapZones f).sensors = s.sensors := rfl
@[simp] theorem State.mapZones_scan (s : State) (f : Zone → Zone) : (s.mapZones f).scan = s.scan := rfl
@[simp] theorem State.mapZones_stop (s : State) (f : Zone → Zone) : (s.mapZones f).stop = s.stop := rfl
@[simp] theorem State.mapZones_modulator (s : State) (f : Zone → Zone) : (s.mapZones f).modulator = s.modulator := rfl
@[simp] theorem State.mapZones_device (s : State) (f : Zone → Zone) : (s.mapZones f).device = s.device := rfl
@[simp] theorem State.mapZones_link (s : State) (f : Zone → Zone) : (s.mapZones f).link = s.link := rfl
@[simp] theorem State.mapZones_pending (s : State) (f : Zone → Zone) : (s.mapZones f).pending = s.pending := rfl
@[simp] theorem State.mapZones_slot (s : State) (f : Zone → Zone) (k' : SlotId) : (s.mapZones f).slot k' = s.slot k' := rfl
@[simp] theorem State.mapZones_sensor (s : State) (f : Zone → Zone) (i' : SensorId) : (s.mapZones f).sensor i' = s.sensor i' := rfl

@[simp] theorem State.takeFrame_store (s : State) : s.takeFrame.store = s.store := rfl
@[simp] theorem State.takeFrame_zones (s : State) : s.takeFrame.zones = s.zones := rfl
@[simp] theorem State.takeFrame_sensors (s : State) : s.takeFrame.sensors = s.sensors := rfl
@[simp] theorem State.takeFrame_scan (s : State) : s.takeFrame.scan = s.scan := rfl
@[simp] theorem State.takeFrame_stop (s : State) : s.takeFrame.stop = s.stop := rfl
@[simp] theorem State.takeFrame_modulator (s : State) : s.takeFrame.modulator = s.modulator := rfl
@[simp] theorem State.takeFrame_device (s : State) : s.takeFrame.device = s.device := rfl
@[simp] theorem State.takeFrame_pending (s : State) : s.takeFrame.pending = s.pending := rfl
@[simp] theorem State.takeFrame_zone (s : State) (z' : ZoneId) : s.takeFrame.zone z' = s.zone z' := rfl
@[simp] theorem State.takeFrame_slot (s : State) (k' : SlotId) : s.takeFrame.slot k' = s.slot k' := rfl
@[simp] theorem State.takeFrame_sensor (s : State) (i' : SensorId) : s.takeFrame.sensor i' = s.sensor i' := rfl

@[simp] theorem State.answer_store (s : State) (f : WireFrame) (p : List Byte) : (s.answer f p).store = s.store := rfl
@[simp] theorem State.answer_zones (s : State) (f : WireFrame) (p : List Byte) : (s.answer f p).zones = s.zones := rfl
@[simp] theorem State.answer_sensors (s : State) (f : WireFrame) (p : List Byte) : (s.answer f p).sensors = s.sensors := rfl
@[simp] theorem State.answer_scan (s : State) (f : WireFrame) (p : List Byte) : (s.answer f p).scan = s.scan := rfl
@[simp] theorem State.answer_stop (s : State) (f : WireFrame) (p : List Byte) : (s.answer f p).stop = s.stop := rfl
@[simp] theorem State.answer_modulator (s : State) (f : WireFrame) (p : List Byte) : (s.answer f p).modulator = s.modulator := rfl
@[simp] theorem State.answer_device (s : State) (f : WireFrame) (p : List Byte) : (s.answer f p).device = s.device := rfl
@[simp] theorem State.answer_pending (s : State) (f : WireFrame) (p : List Byte) : (s.answer f p).pending = s.pending := rfl
@[simp] theorem State.answer_zone (s : State) (f : WireFrame) (p : List Byte) (z' : ZoneId) : (s.answer f p).zone z' = s.zone z' := rfl
@[simp] theorem State.answer_slot (s : State) (f : WireFrame) (p : List Byte) (k' : SlotId) : (s.answer f p).slot k' = s.slot k' := rfl
@[simp] theorem State.answer_sensor (s : State) (f : WireFrame) (p : List Byte) (i' : SensorId) : (s.answer f p).sensor i' = s.sensor i' := rfl

@[simp] theorem State.submit_store (s : State) (r : Report) : (s.submit r).store = s.store := rfl
@[simp] theorem State.submit_zones (s : State) (r : Report) : (s.submit r).zones = s.zones := rfl
@[simp] theorem State.submit_sensors (s : State) (r : Report) : (s.submit r).sensors = s.sensors := rfl
@[simp] theorem State.submit_scan (s : State) (r : Report) : (s.submit r).scan = s.scan := rfl
@[simp] theorem State.submit_stop (s : State) (r : Report) : (s.submit r).stop = s.stop := rfl
@[simp] theorem State.submit_modulator (s : State) (r : Report) : (s.submit r).modulator = s.modulator := rfl
@[simp] theorem State.submit_device (s : State) (r : Report) : (s.submit r).device = s.device := rfl
@[simp] theorem State.submit_pending (s : State) (r : Report) : (s.submit r).pending = s.pending := rfl
@[simp] theorem State.submit_zone (s : State) (r : Report) (z' : ZoneId) : (s.submit r).zone z' = s.zone z' := rfl
@[simp] theorem State.submit_slot (s : State) (r : Report) (k' : SlotId) : (s.submit r).slot k' = s.slot k' := rfl
@[simp] theorem State.submit_sensor (s : State) (r : Report) (i' : SensorId) : (s.submit r).sensor i' = s.sensor i' := rfl

@[simp] theorem State.countLoss_store (s : State) (c : LossCause) : (s.countLoss c).store = s.store := rfl
@[simp] theorem State.countLoss_zones (s : State) (c : LossCause) : (s.countLoss c).zones = s.zones := rfl
@[simp] theorem State.countLoss_sensors (s : State) (c : LossCause) : (s.countLoss c).sensors = s.sensors := rfl
@[simp] theorem State.countLoss_scan (s : State) (c : LossCause) : (s.countLoss c).scan = s.scan := rfl
@[simp] theorem State.countLoss_stop (s : State) (c : LossCause) : (s.countLoss c).stop = s.stop := rfl
@[simp] theorem State.countLoss_modulator (s : State) (c : LossCause) : (s.countLoss c).modulator = s.modulator := rfl
@[simp] theorem State.countLoss_device (s : State) (c : LossCause) : (s.countLoss c).device = s.device := rfl
@[simp] theorem State.countLoss_pending (s : State) (c : LossCause) : (s.countLoss c).pending = s.pending := rfl
@[simp] theorem State.countLoss_zone (s : State) (c : LossCause) (z' : ZoneId) : (s.countLoss c).zone z' = s.zone z' := rfl
@[simp] theorem State.countLoss_slot (s : State) (c : LossCause) (k' : SlotId) : (s.countLoss c).slot k' = s.slot k' := rfl
@[simp] theorem State.countLoss_sensor (s : State) (c : LossCause) (i' : SensorId) : (s.countLoss c).sensor i' = s.sensor i' := rfl

@[simp] theorem State.wake_store (s : State) : s.wake.store = s.store := rfl
@[simp] theorem State.wake_zones (s : State) : s.wake.zones = s.zones := rfl
@[simp] theorem State.wake_sensors (s : State) : s.wake.sensors = s.sensors := rfl
@[simp] theorem State.wake_scan (s : State) : s.wake.scan = s.scan := rfl
@[simp] theorem State.wake_stop (s : State) : s.wake.stop = s.stop := rfl
@[simp] theorem State.wake_modulator (s : State) : s.wake.modulator = s.modulator := rfl
@[simp] theorem State.wake_device (s : State) : s.wake.device = s.device := rfl
@[simp] theorem State.wake_pending (s : State) : s.wake.pending = s.pending := rfl
@[simp] theorem State.wake_zone (s : State) (z' : ZoneId) : s.wake.zone z' = s.zone z' := rfl
@[simp] theorem State.wake_slot (s : State) (k' : SlotId) : s.wake.slot k' = s.slot k' := rfl
@[simp] theorem State.wake_sensor (s : State) (i' : SensorId) : s.wake.sensor i' = s.sensor i' := rfl

@[simp] theorem State.hunt_store (s : State) : s.hunt.store = s.store := rfl
@[simp] theorem State.hunt_zones (s : State) : s.hunt.zones = s.zones := rfl
@[simp] theorem State.hunt_sensors (s : State) : s.hunt.sensors = s.sensors := rfl
@[simp] theorem State.hunt_scan (s : State) : s.hunt.scan = s.scan := rfl
@[simp] theorem State.hunt_stop (s : State) : s.hunt.stop = s.stop := rfl
@[simp] theorem State.hunt_modulator (s : State) : s.hunt.modulator = s.modulator := rfl
@[simp] theorem State.hunt_device (s : State) : s.hunt.device = s.device := rfl
@[simp] theorem State.hunt_pending (s : State) : s.hunt.pending = s.pending := rfl
@[simp] theorem State.hunt_zone (s : State) (z' : ZoneId) : s.hunt.zone z' = s.zone z' := rfl
@[simp] theorem State.hunt_slot (s : State) (k' : SlotId) : s.hunt.slot k' = s.slot k' := rfl
@[simp] theorem State.hunt_sensor (s : State) (i' : SensorId) : s.hunt.sensor i' = s.sensor i' := rfl

@[simp] theorem State.restartSilence_store (s : State) : s.restartSilence.store = s.store := rfl
@[simp] theorem State.restartSilence_zones (s : State) : s.restartSilence.zones = s.zones := rfl
@[simp] theorem State.restartSilence_sensors (s : State) : s.restartSilence.sensors = s.sensors := rfl
@[simp] theorem State.restartSilence_scan (s : State) : s.restartSilence.scan = s.scan := rfl
@[simp] theorem State.restartSilence_stop (s : State) : s.restartSilence.stop = s.stop := rfl
@[simp] theorem State.restartSilence_modulator (s : State) : s.restartSilence.modulator = s.modulator := rfl
@[simp] theorem State.restartSilence_device (s : State) : s.restartSilence.device = s.device := rfl
@[simp] theorem State.restartSilence_pending (s : State) : s.restartSilence.pending = s.pending := rfl
@[simp] theorem State.restartSilence_zone (s : State) (z' : ZoneId) : s.restartSilence.zone z' = s.zone z' := rfl
@[simp] theorem State.restartSilence_slot (s : State) (k' : SlotId) : s.restartSilence.slot k' = s.slot k' := rfl
@[simp] theorem State.restartSilence_sensor (s : State) (i' : SensorId) : s.restartSilence.sensor i' = s.sensor i' := rfl

@[simp] theorem State.useProgram_zones (s : State) (k : SlotId) : (s.useProgram k).zones = s.zones := rfl
@[simp] theorem State.useProgram_sensors (s : State) (k : SlotId) : (s.useProgram k).sensors = s.sensors := rfl
@[simp] theorem State.useProgram_scan (s : State) (k : SlotId) : (s.useProgram k).scan = s.scan := rfl
@[simp] theorem State.useProgram_stop (s : State) (k : SlotId) : (s.useProgram k).stop = s.stop := rfl
@[simp] theorem State.useProgram_modulator (s : State) (k : SlotId) : (s.useProgram k).modulator = s.modulator := rfl
@[simp] theorem State.useProgram_device (s : State) (k : SlotId) : (s.useProgram k).device = s.device := rfl
@[simp] theorem State.useProgram_link (s : State) (k : SlotId) : (s.useProgram k).link = s.link := rfl
@[simp] theorem State.useProgram_pending (s : State) (k : SlotId) : (s.useProgram k).pending = s.pending := rfl
@[simp] theorem State.useProgram_zone (s : State) (k : SlotId) (z' : ZoneId) : (s.useProgram k).zone z' = s.zone z' := rfl
@[simp] theorem State.useProgram_sensor (s : State) (k : SlotId) (i' : SensorId) : (s.useProgram k).sensor i' = s.sensor i' := rfl

@[simp] theorem State.emptySlot_zones (s : State) (k : SlotId) (st : SlotState) : (s.emptySlot k st).zones = s.zones := rfl
@[simp] theorem State.emptySlot_sensors (s : State) (k : SlotId) (st : SlotState) : (s.emptySlot k st).sensors = s.sensors := rfl
@[simp] theorem State.emptySlot_scan (s : State) (k : SlotId) (st : SlotState) : (s.emptySlot k st).scan = s.scan := rfl
@[simp] theorem State.emptySlot_stop (s : State) (k : SlotId) (st : SlotState) : (s.emptySlot k st).stop = s.stop := rfl
@[simp] theorem State.emptySlot_modulator (s : State) (k : SlotId) (st : SlotState) : (s.emptySlot k st).modulator = s.modulator := rfl
@[simp] theorem State.emptySlot_device (s : State) (k : SlotId) (st : SlotState) : (s.emptySlot k st).device = s.device := rfl
@[simp] theorem State.emptySlot_link (s : State) (k : SlotId) (st : SlotState) : (s.emptySlot k st).link = s.link := rfl
@[simp] theorem State.emptySlot_pending (s : State) (k : SlotId) (st : SlotState) : (s.emptySlot k st).pending = s.pending := rfl
@[simp] theorem State.emptySlot_zone (s : State) (k : SlotId) (st : SlotState) (z' : ZoneId) : (s.emptySlot k st).zone z' = s.zone z' := rfl
@[simp] theorem State.emptySlot_sensor (s : State) (k : SlotId) (st : SlotState) (i' : SensorId) : (s.emptySlot k st).sensor i' = s.sensor i' := rfl

@[simp] theorem State.appendSegs_zones (s : State) (k : SlotId) (g : List Seg) : (s.appendSegs k g).zones = s.zones := rfl
@[simp] theorem State.appendSegs_sensors (s : State) (k : SlotId) (g : List Seg) : (s.appendSegs k g).sensors = s.sensors := rfl
@[simp] theorem State.appendSegs_scan (s : State) (k : SlotId) (g : List Seg) : (s.appendSegs k g).scan = s.scan := rfl
@[simp] theorem State.appendSegs_stop (s : State) (k : SlotId) (g : List Seg) : (s.appendSegs k g).stop = s.stop := rfl
@[simp] theorem State.appendSegs_modulator (s : State) (k : SlotId) (g : List Seg) : (s.appendSegs k g).modulator = s.modulator := rfl
@[simp] theorem State.appendSegs_device (s : State) (k : SlotId) (g : List Seg) : (s.appendSegs k g).device = s.device := rfl
@[simp] theorem State.appendSegs_link (s : State) (k : SlotId) (g : List Seg) : (s.appendSegs k g).link = s.link := rfl
@[simp] theorem State.appendSegs_pending (s : State) (k : SlotId) (g : List Seg) : (s.appendSegs k g).pending = s.pending := rfl
@[simp] theorem State.appendSegs_zone (s : State) (k : SlotId) (g : List Seg) (z' : ZoneId) : (s.appendSegs k g).zone z' = s.zone z' := rfl
@[simp] theorem State.appendSegs_sensor (s : State) (k : SlotId) (g : List Seg) (i' : SensorId) : (s.appendSegs k g).sensor i' = s.sensor i' := rfl

@[simp] theorem State.beginPass_store (s : State) : s.beginPass.store = s.store := rfl
@[simp] theorem State.beginPass_zones (s : State) : s.beginPass.zones = s.zones := rfl
@[simp] theorem State.beginPass_sensors (s : State) : s.beginPass.sensors = s.sensors := rfl
@[simp] theorem State.beginPass_stop (s : State) : s.beginPass.stop = s.stop := rfl
@[simp] theorem State.beginPass_modulator (s : State) : s.beginPass.modulator = s.modulator := rfl
@[simp] theorem State.beginPass_device (s : State) : s.beginPass.device = s.device := rfl
@[simp] theorem State.beginPass_link (s : State) : s.beginPass.link = s.link := rfl
@[simp] theorem State.beginPass_pending (s : State) : s.beginPass.pending = s.pending := rfl
@[simp] theorem State.beginPass_zone (s : State) (z' : ZoneId) : s.beginPass.zone z' = s.zone z' := rfl
@[simp] theorem State.beginPass_slot (s : State) (k' : SlotId) : s.beginPass.slot k' = s.slot k' := rfl
@[simp] theorem State.beginPass_sensor (s : State) (i' : SensorId) : s.beginPass.sensor i' = s.sensor i' := rfl

@[simp] theorem State.startTick_store (s : State) (t : Nat) : (s.startTick t).store = s.store := rfl
@[simp] theorem State.startTick_sensors (s : State) (t : Nat) : (s.startTick t).sensors = s.sensors := rfl
@[simp] theorem State.startTick_scan (s : State) (t : Nat) : (s.startTick t).scan = s.scan := rfl
@[simp] theorem State.startTick_stop (s : State) (t : Nat) : (s.startTick t).stop = s.stop := rfl
@[simp] theorem State.startTick_device (s : State) (t : Nat) : (s.startTick t).device = s.device := rfl
@[simp] theorem State.startTick_link (s : State) (t : Nat) : (s.startTick t).link = s.link := rfl
@[simp] theorem State.startTick_pending (s : State) (t : Nat) : (s.startTick t).pending = s.pending := rfl
@[simp] theorem State.startTick_slot (s : State) (t : Nat) (k' : SlotId) : (s.startTick t).slot k' = s.slot k' := rfl
@[simp] theorem State.startTick_sensor (s : State) (t : Nat) (i' : SensorId) : (s.startTick t).sensor i' = s.sensor i' := rfl

@[simp] theorem State.startTick_modulator (s : State) (t : Nat) :
    (s.startTick t).modulator = { s.modulator with tick := t } := rfl
@[simp] theorem State.startTick_zone (s : State) (t : Nat) (z : ZoneId) :
    (s.startTick t).zone z = (s.zone z).drive t := by
  simp [State.startTick]; rfl

@[simp] theorem State.repeatReply_store (s : State) : s.repeatReply.store = s.store := by
  unfold State.repeatReply; split <;> rfl
@[simp] theorem State.repeatReply_zones (s : State) : s.repeatReply.zones = s.zones := by
  unfold State.repeatReply; split <;> rfl
@[simp] theorem State.repeatReply_sensors (s : State) : s.repeatReply.sensors = s.sensors := by
  unfold State.repeatReply; split <;> rfl
@[simp] theorem State.repeatReply_scan (s : State) : s.repeatReply.scan = s.scan := by
  unfold State.repeatReply; split <;> rfl
@[simp] theorem State.repeatReply_stop (s : State) : s.repeatReply.stop = s.stop := by
  unfold State.repeatReply; split <;> rfl
@[simp] theorem State.repeatReply_modulator (s : State) : s.repeatReply.modulator = s.modulator := by
  unfold State.repeatReply; split <;> rfl
@[simp] theorem State.repeatReply_device (s : State) : s.repeatReply.device = s.device := by
  unfold State.repeatReply; split <;> rfl
@[simp] theorem State.repeatReply_pending (s : State) : s.repeatReply.pending = s.pending := by
  unfold State.repeatReply; split <;> rfl
@[simp] theorem State.repeatReply_zone (s : State) (z' : ZoneId) : s.repeatReply.zone z' = s.zone z' := by
  unfold State.repeatReply; split <;> rfl
@[simp] theorem State.repeatReply_slot (s : State) (k' : SlotId) : s.repeatReply.slot k' = s.slot k' := by
  unfold State.repeatReply; split <;> rfl
@[simp] theorem State.repeatReply_sensor (s : State) (i' : SensorId) : s.repeatReply.sensor i' = s.sensor i' := by
  unfold State.repeatReply; split <;> rfl

@[simp] theorem State.releaseProgram_zones (s : State) (h : Option SlotId) : (s.releaseProgram h).zones = s.zones := by
  cases h <;> rfl
@[simp] theorem State.releaseProgram_sensors (s : State) (h : Option SlotId) : (s.releaseProgram h).sensors = s.sensors := by
  cases h <;> rfl
@[simp] theorem State.releaseProgram_scan (s : State) (h : Option SlotId) : (s.releaseProgram h).scan = s.scan := by
  cases h <;> rfl
@[simp] theorem State.releaseProgram_stop (s : State) (h : Option SlotId) : (s.releaseProgram h).stop = s.stop := by
  cases h <;> rfl
@[simp] theorem State.releaseProgram_modulator (s : State) (h : Option SlotId) : (s.releaseProgram h).modulator = s.modulator := by
  cases h <;> rfl
@[simp] theorem State.releaseProgram_device (s : State) (h : Option SlotId) : (s.releaseProgram h).device = s.device := by
  cases h <;> rfl
@[simp] theorem State.releaseProgram_link (s : State) (h : Option SlotId) : (s.releaseProgram h).link = s.link := by
  cases h <;> rfl
@[simp] theorem State.releaseProgram_pending (s : State) (h : Option SlotId) : (s.releaseProgram h).pending = s.pending := by
  cases h <;> rfl
@[simp] theorem State.releaseProgram_zone (s : State) (h : Option SlotId) (z' : ZoneId) : (s.releaseProgram h).zone z' = s.zone z' := by
  cases h <;> rfl
@[simp] theorem State.releaseProgram_sensor (s : State) (h : Option SlotId) (i' : SensorId) : (s.releaseProgram h).sensor i' = s.sensor i' := by
  cases h <;> rfl

@[simp] theorem State.reportState_store (s : State) (z : ZoneId) (old : ZoneState) (why : StateReason) : (s.reportState z old why).store = s.store := by
  unfold State.reportState; split <;> rfl
@[simp] theorem State.reportState_zones (s : State) (z : ZoneId) (old : ZoneState) (why : StateReason) : (s.reportState z old why).zones = s.zones := by
  unfold State.reportState; split <;> rfl
@[simp] theorem State.reportState_sensors (s : State) (z : ZoneId) (old : ZoneState) (why : StateReason) : (s.reportState z old why).sensors = s.sensors := by
  unfold State.reportState; split <;> rfl
@[simp] theorem State.reportState_scan (s : State) (z : ZoneId) (old : ZoneState) (why : StateReason) : (s.reportState z old why).scan = s.scan := by
  unfold State.reportState; split <;> rfl
@[simp] theorem State.reportState_stop (s : State) (z : ZoneId) (old : ZoneState) (why : StateReason) : (s.reportState z old why).stop = s.stop := by
  unfold State.reportState; split <;> rfl
@[simp] theorem State.reportState_modulator (s : State) (z : ZoneId) (old : ZoneState) (why : StateReason) : (s.reportState z old why).modulator = s.modulator := by
  unfold State.reportState; split <;> rfl
@[simp] theorem State.reportState_device (s : State) (z : ZoneId) (old : ZoneState) (why : StateReason) : (s.reportState z old why).device = s.device := by
  unfold State.reportState; split <;> rfl
@[simp] theorem State.reportState_pending (s : State) (z : ZoneId) (old : ZoneState) (why : StateReason) : (s.reportState z old why).pending = s.pending := by
  unfold State.reportState; split <;> rfl
@[simp] theorem State.reportState_zone (s : State) (z : ZoneId) (old : ZoneState) (why : StateReason) (z' : ZoneId) : (s.reportState z old why).zone z' = s.zone z' := by
  unfold State.reportState; split <;> rfl
@[simp] theorem State.reportState_slot (s : State) (z : ZoneId) (old : ZoneState) (why : StateReason) (k' : SlotId) : (s.reportState z old why).slot k' = s.slot k' := by
  unfold State.reportState; split <;> rfl
@[simp] theorem State.reportState_sensor (s : State) (z : ZoneId) (old : ZoneState) (why : StateReason) (i' : SensorId) : (s.reportState z old why).sensor i' = s.sensor i' := by
  unfold State.reportState; split <;> rfl

@[simp] theorem State.submitAll_store (s : State) (rs : List Report) : (s.submitAll rs).store = s.store := by
  induction rs generalizing s with
  | nil => rfl
  | cons r rs ih => exact ih (s.submit r)
@[simp] theorem State.submitAll_zones (s : State) (rs : List Report) : (s.submitAll rs).zones = s.zones := by
  induction rs generalizing s with
  | nil => rfl
  | cons r rs ih => exact ih (s.submit r)
@[simp] theorem State.submitAll_sensors (s : State) (rs : List Report) : (s.submitAll rs).sensors = s.sensors := by
  induction rs generalizing s with
  | nil => rfl
  | cons r rs ih => exact ih (s.submit r)
@[simp] theorem State.submitAll_scan (s : State) (rs : List Report) : (s.submitAll rs).scan = s.scan := by
  induction rs generalizing s with
  | nil => rfl
  | cons r rs ih => exact ih (s.submit r)
@[simp] theorem State.submitAll_stop (s : State) (rs : List Report) : (s.submitAll rs).stop = s.stop := by
  induction rs generalizing s with
  | nil => rfl
  | cons r rs ih => exact ih (s.submit r)
@[simp] theorem State.submitAll_modulator (s : State) (rs : List Report) : (s.submitAll rs).modulator = s.modulator := by
  induction rs generalizing s with
  | nil => rfl
  | cons r rs ih => exact ih (s.submit r)
@[simp] theorem State.submitAll_device (s : State) (rs : List Report) : (s.submitAll rs).device = s.device := by
  induction rs generalizing s with
  | nil => rfl
  | cons r rs ih => exact ih (s.submit r)
@[simp] theorem State.submitAll_pending (s : State) (rs : List Report) : (s.submitAll rs).pending = s.pending := by
  induction rs generalizing s with
  | nil => rfl
  | cons r rs ih => exact ih (s.submit r)
@[simp] theorem State.submitAll_zone (s : State) (rs : List Report) (z' : ZoneId) : (s.submitAll rs).zone z' = s.zone z' := by
  induction rs generalizing s with
  | nil => rfl
  | cons r rs ih => exact ih (s.submit r)
@[simp] theorem State.submitAll_slot (s : State) (rs : List Report) (k' : SlotId) : (s.submitAll rs).slot k' = s.slot k' := by
  induction rs generalizing s with
  | nil => rfl
  | cons r rs ih => exact ih (s.submit r)
@[simp] theorem State.submitAll_sensor (s : State) (rs : List Report) (i' : SensorId) : (s.submitAll rs).sensor i' = s.sensor i' := by
  induction rs generalizing s with
  | nil => rfl
  | cons r rs ih => exact ih (s.submit r)

@[simp] theorem State.endLost_store (s : State) : s.endLost.store = s.store := by
  unfold State.endLost; split <;> rfl
@[simp] theorem State.endLost_zones (s : State) : s.endLost.zones = s.zones := by
  unfold State.endLost; split <;> rfl
@[simp] theorem State.endLost_sensors (s : State) : s.endLost.sensors = s.sensors := by
  unfold State.endLost; split <;> rfl
@[simp] theorem State.endLost_scan (s : State) : s.endLost.scan = s.scan := by
  unfold State.endLost; split <;> rfl
@[simp] theorem State.endLost_stop (s : State) : s.endLost.stop = s.stop := by
  unfold State.endLost; split <;> rfl
@[simp] theorem State.endLost_modulator (s : State) : s.endLost.modulator = s.modulator := by
  unfold State.endLost; split <;> rfl
@[simp] theorem State.endLost_device (s : State) : s.endLost.device = s.device := by
  unfold State.endLost; split <;> rfl
@[simp] theorem State.endLost_pending (s : State) : s.endLost.pending = s.pending := by
  unfold State.endLost; split <;> rfl
@[simp] theorem State.endLost_zone (s : State) (z' : ZoneId) : s.endLost.zone z' = s.zone z' := by
  unfold State.endLost; split <;> rfl
@[simp] theorem State.endLost_slot (s : State) (k' : SlotId) : s.endLost.slot k' = s.slot k' := by
  unfold State.endLost; split <;> rfl
@[simp] theorem State.endLost_sensor (s : State) (i' : SensorId) : s.endLost.sensor i' = s.sensor i' := by
  unfold State.endLost; split <;> rfl

@[simp] theorem State.joinQueue_store (s : State) (f : WireFrame) : (s.joinQueue f).store = s.store := by
  unfold State.joinQueue; split <;> rfl
@[simp] theorem State.joinQueue_zones (s : State) (f : WireFrame) : (s.joinQueue f).zones = s.zones := by
  unfold State.joinQueue; split <;> rfl
@[simp] theorem State.joinQueue_sensors (s : State) (f : WireFrame) : (s.joinQueue f).sensors = s.sensors := by
  unfold State.joinQueue; split <;> rfl
@[simp] theorem State.joinQueue_scan (s : State) (f : WireFrame) : (s.joinQueue f).scan = s.scan := by
  unfold State.joinQueue; split <;> rfl
@[simp] theorem State.joinQueue_stop (s : State) (f : WireFrame) : (s.joinQueue f).stop = s.stop := by
  unfold State.joinQueue; split <;> rfl
@[simp] theorem State.joinQueue_modulator (s : State) (f : WireFrame) : (s.joinQueue f).modulator = s.modulator := by
  unfold State.joinQueue; split <;> rfl
@[simp] theorem State.joinQueue_device (s : State) (f : WireFrame) : (s.joinQueue f).device = s.device := by
  unfold State.joinQueue; split <;> rfl
@[simp] theorem State.joinQueue_pending (s : State) (f : WireFrame) : (s.joinQueue f).pending = s.pending := by
  unfold State.joinQueue; split <;> rfl
@[simp] theorem State.joinQueue_zone (s : State) (f : WireFrame) (z' : ZoneId) : (s.joinQueue f).zone z' = s.zone z' := by
  unfold State.joinQueue; split <;> rfl
@[simp] theorem State.joinQueue_slot (s : State) (f : WireFrame) (k' : SlotId) : (s.joinQueue f).slot k' = s.slot k' := by
  unfold State.joinQueue; split <;> rfl
@[simp] theorem State.joinQueue_sensor (s : State) (f : WireFrame) (i' : SensorId) : (s.joinQueue f).sensor i' = s.sensor i' := by
  unfold State.joinQueue; split <;> rfl

/-! ## The link after an update -/

@[simp] theorem State.takeFrame_link (s : State) :
    s.takeFrame.link = { s.link with rxQueue := s.link.rxQueue.tail } := rfl
@[simp] theorem State.answer_link (s : State) (f : WireFrame) (p : List Byte) :
    (s.answer f p).link = { s.link with
      replies := s.link.replies ++ [replyFrame f p]
      retry := some { seq := f.seq, crc := f.crc, reply := replyFrame f p } } := rfl
@[simp] theorem State.submit_link (s : State) (r : Report) : (s.submit r).link = s.link.submit r := rfl
@[simp] theorem State.countLoss_link (s : State) (c : LossCause) :
    (s.countLoss c).link = s.link.countLoss c := rfl
@[simp] theorem State.wake_link (s : State) : s.wake.link = s.link.wake s.device.live.ack := rfl
@[simp] theorem State.hunt_link (s : State) : s.hunt.link = { s.link with receiver := .hunting } := rfl
@[simp] theorem State.restartSilence_link (s : State) :
    s.restartSilence.link = { s.link with silence := silenceFrom s.device.live.timeout } := rfl
@[simp] theorem State.submitAll_link (s : State) (rs : List Report) :
    (s.submitAll rs).link = rs.foldl Link.submit s.link := by
  induction rs generalizing s with
  | nil => rfl
  | cons r rs ih => exact ih (s.submit r)
theorem State.reportState_link (s : State) (z : ZoneId) (old : ZoneState) (why : StateReason) :
    (s.reportState z old why).link =
      (if (s.zone z).live.reports.zoneState then
        [Report.zoneState z old (s.zone z).zr.state why (s.zone z).zr.causes] else []).foldl
        Link.submit s.link := by
  unfold State.reportState; split <;> rfl

/-! ## The store after an update -/

@[simp] theorem State.useProgram_free (s : State) (k : SlotId) :
    (s.useProgram k).store.free = s.store.free := rfl
@[simp] theorem State.useProgram_slot (s : State) (k j : SlotId) :
    (s.useProgram k).slot j =
      if j = k then { s.slot k with useCount := (s.slot k).useCount + 1 } else s.slot j := by
  simp [State.useProgram]
@[simp] theorem State.releaseProgram_free (s : State) (h : Option SlotId) :
    (s.releaseProgram h).store.free = s.store.free := by
  cases h <;> rfl
theorem State.releaseProgram_slot (s : State) (h : Option SlotId) (k : SlotId) :
    (s.releaseProgram h).slot k =
      if h = some k then { s.slot k with useCount := (s.slot k).useCount - 1 } else s.slot k := by
  cases h with
  | none => simp [State.releaseProgram]
  | some j =>
    by_cases e : k = j
    · subst e; simp [State.releaseProgram]
    · have e' : j ≠ k := fun h => e h.symm
      simp [State.releaseProgram, e, e']
@[simp] theorem State.emptySlot_free (s : State) (k : SlotId) (st : SlotState) :
    (s.emptySlot k st).store.free = s.store.free + (s.slot k).segs.length := rfl
@[simp] theorem State.emptySlot_slot (s : State) (k j : SlotId) (st : SlotState) :
    (s.emptySlot k st).slot j =
      if j = k then { s.slot k with state := st, segs := [], sealResult := none } else s.slot j := by
  have : (s.emptySlot k st).slot j
      = (s.setSlot k { s.slot k with state := st, segs := [], sealResult := none }).slot j := rfl
  rw [this]; simp
@[simp] theorem State.appendSegs_free (s : State) (k : SlotId) (g : List Seg) :
    (s.appendSegs k g).store.free = s.store.free - g.length := rfl
@[simp] theorem State.appendSegs_slot (s : State) (k j : SlotId) (g : List Seg) :
    (s.appendSegs k g).slot j =
      if j = k then { s.slot k with segs := (s.slot k).segs ++ g } else s.slot j := by
  have : (s.appendSegs k g).slot j
      = (s.setSlot k { s.slot k with segs := (s.slot k).segs ++ g }).slot j := rfl
  rw [this]; simp

end Sys2Proof.Machine
end

