-- ==== Sys2Proof/Laws/Link.lean ====
section
/-! SUPPORT. What the operations over the report queue and the transmitter can do: submitting and counting a loss
change the queue with its counters alone, and the arbiter changes the transmitter with TXD and its run count alone. -/

namespace Sys2Proof.Machine

/-! ## Submitting and counting -/

/-- A link that differs from another in the report queue and its counters alone. -/
def Link.OnlyReports (l l' : Link) : Prop :=
  l' = { l with reports := l'.reports, nextSeq := l'.nextSeq, lost := l'.lost }

theorem Link.OnlyReports.refl (l : Link) : l.OnlyReports l := rfl

theorem Link.OnlyReports.trans {a b c : Link} (h : a.OnlyReports b) (k : b.OnlyReports c) :
    a.OnlyReports c := by
  unfold Link.OnlyReports at *
  rw [k, h]

theorem Link.submit_onlyReports (l : Link) (r : Report) : l.OnlyReports (l.submit r) := by
  unfold Link.submit
  repeat' split
  all_goals rfl

theorem Link.countLoss_onlyReports (l : Link) (c : LossCause) : l.OnlyReports (l.countLoss c) := by
  unfold Link.countLoss
  split
  · rfl
  · exact l.submit_onlyReports _

theorem Link.foldl_submit_onlyReports (l : Link) (rs : List Report) :
    l.OnlyReports (rs.foldl Link.submit l) := by
  induction rs generalizing l with
  | nil => rfl
  | cons r rs ih => exact (l.submit_onlyReports r).trans (ih _)

/-- Two links with the same report queue and counters. -/
def Link.ReportsEq (l l' : Link) : Prop :=
  l'.reports = l.reports ∧ l'.nextSeq = l.nextSeq ∧ l'.lost = l.lost

/-- Submission reads the report queue and its counters alone. -/
theorem Link.ReportsEq.submit {l l' : Link} (h : l.ReportsEq l') (r : Report) :
    (l.submit r).ReportsEq (l'.submit r) := by
  obtain ⟨h1, h2, h3⟩ := h
  unfold Link.submit Link.enqueue Link.lose
  simp only [h1, h2, h3]
  split
  · split <;> simp [Link.ReportsEq]
  · split
    · simp [Link.ReportsEq]
    · split <;> simp [Link.ReportsEq]

theorem Link.ReportsEq.foldl {l l' : Link} (h : l.ReportsEq l') (rs : List Report) :
    (rs.foldl Link.submit l).ReportsEq (rs.foldl Link.submit l') := by
  induction rs generalizing l l' with
  | nil => exact h
  | cons r rs ih => exact ih (h.submit r)

/-- Counting a loss reads the transmitter too. -/
theorem Link.ReportsEq.countLoss {l l' : Link} (h : l.ReportsEq l') (ht : l'.tx = l.tx) (c : LossCause) :
    (l.countLoss c).ReportsEq (l'.countLoss c) := by
  have hi : l'.isUnsentError = l.isUnsentError := by
    funext q
    simp [Link.isUnsentError, Link.isSending, ht]
  unfold Link.countLoss
  rw [hi, h.1]
  split
  · exact ⟨rfl, h.2.1, h.2.2⟩
  · exact h.submit _

/-- What a link that differs in its reports alone keeps. -/
theorem Link.OnlyReports.keeps {l l' : Link} (h : l.OnlyReports l') :
    l'.rate = l.rate ∧ l'.receiver = l.receiver ∧ l'.rxQueue = l.rxQueue ∧ l'.awaitsReset = l.awaitsReset
    ∧ l'.retry = l.retry ∧ l'.replies = l.replies ∧ l'.tx = l.tx ∧ l'.runCount = l.runCount
    ∧ l'.resend = l.resend ∧ l'.connected = l.connected ∧ l'.silence = l.silence ∧ l'.txd = l.txd := by
  unfold Link.OnlyReports at h
  rw [h]
  simp

section
variable (l : Link) (r : Report) (c : LossCause)

@[simp] theorem Link.submit_rate : (l.submit r).rate = l.rate := (l.submit_onlyReports r).keeps.1
@[simp] theorem Link.submit_receiver : (l.submit r).receiver = l.receiver := (l.submit_onlyReports r).keeps.2.1
@[simp] theorem Link.submit_rxQueue : (l.submit r).rxQueue = l.rxQueue := (l.submit_onlyReports r).keeps.2.2.1
@[simp] theorem Link.submit_awaitsReset : (l.submit r).awaitsReset = l.awaitsReset :=
  (l.submit_onlyReports r).keeps.2.2.2.1
@[simp] theorem Link.submit_retry : (l.submit r).retry = l.retry := (l.submit_onlyReports r).keeps.2.2.2.2.1
@[simp] theorem Link.submit_replies : (l.submit r).replies = l.replies :=
  (l.submit_onlyReports r).keeps.2.2.2.2.2.1
@[simp] theorem Link.submit_tx : (l.submit r).tx = l.tx := (l.submit_onlyReports r).keeps.2.2.2.2.2.2.1
@[simp] theorem Link.submit_runCount : (l.submit r).runCount = l.runCount :=
  (l.submit_onlyReports r).keeps.2.2.2.2.2.2.2.1
@[simp] theorem Link.submit_resend : (l.submit r).resend = l.resend :=
  (l.submit_onlyReports r).keeps.2.2.2.2.2.2.2.2.1
@[simp] theorem Link.submit_connected : (l.submit r).connected = l.connected :=
  (l.submit_onlyReports r).keeps.2.2.2.2.2.2.2.2.2.1
@[simp] theorem Link.submit_silence : (l.submit r).silence = l.silence :=
  (l.submit_onlyReports r).keeps.2.2.2.2.2.2.2.2.2.2.1
@[simp] theorem Link.submit_txd : (l.submit r).txd = l.txd :=
  (l.submit_onlyReports r).keeps.2.2.2.2.2.2.2.2.2.2.2

@[simp] theorem Link.countLoss_rate : (l.countLoss c).rate = l.rate := (l.countLoss_onlyReports c).keeps.1
@[simp] theorem Link.countLoss_receiver : (l.countLoss c).receiver = l.receiver :=
  (l.countLoss_onlyReports c).keeps.2.1
@[simp] theorem Link.countLoss_rxQueue : (l.countLoss c).rxQueue = l.rxQueue :=
  (l.countLoss_onlyReports c).keeps.2.2.1
@[simp] theorem Link.countLoss_awaitsReset : (l.countLoss c).awaitsReset = l.awaitsReset :=
  (l.countLoss_onlyReports c).keeps.2.2.2.1
@[simp] theorem Link.countLoss_retry : (l.countLoss c).retry = l.retry :=
  (l.countLoss_onlyReports c).keeps.2.2.2.2.1
@[simp] theorem Link.countLoss_replies : (l.countLoss c).replies = l.replies :=
  (l.countLoss_onlyReports c).keeps.2.2.2.2.2.1
@[simp] theorem Link.countLoss_tx : (l.countLoss c).tx = l.tx := (l.countLoss_onlyReports c).keeps.2.2.2.2.2.2.1
@[simp] theorem Link.countLoss_runCount : (l.countLoss c).runCount = l.runCount :=
  (l.countLoss_onlyReports c).keeps.2.2.2.2.2.2.2.1
@[simp] theorem Link.countLoss_resend : (l.countLoss c).resend = l.resend :=
  (l.countLoss_onlyReports c).keeps.2.2.2.2.2.2.2.2.1
@[simp] theorem Link.countLoss_connected : (l.countLoss c).connected = l.connected :=
  (l.countLoss_onlyReports c).keeps.2.2.2.2.2.2.2.2.2.1
@[simp] theorem Link.countLoss_silence : (l.countLoss c).silence = l.silence :=
  (l.countLoss_onlyReports c).keeps.2.2.2.2.2.2.2.2.2.2.1
@[simp] theorem Link.countLoss_txd : (l.countLoss c).txd = l.txd :=
  (l.countLoss_onlyReports c).keeps.2.2.2.2.2.2.2.2.2.2.2

end

/-! ## The arbiter -/

section
variable (l : Link) (x : Transmitter)

@[simp] theorem Link.transmit_tx : (l.transmit x).tx = x := rfl
@[simp] theorem Link.transmit_txd : (l.transmit x).txd = x.levels := rfl

end

/-- The arbiter's choice changes the transmitter with TXD and the run count alone, and TXD follows the transmitter. -/
theorem Link.choose_eq (l : Link) (ack : Bool) :
    l.choose ack = { l with
      tx := (l.choose ack).tx, txd := (l.choose ack).tx.levels, runCount := (l.choose ack).runCount } := by
  unfold Link.choose Link.transmit
  split
  · rfl
  · split <;> rfl
  · rfl
  · rfl

/-- Waking changes the transmitter with TXD and the run count alone. -/
theorem Link.wake_eq (l : Link) (ack : Bool) :
    l.wake ack = { l with
      tx := (l.wake ack).tx, txd := (l.wake ack).txd, runCount := (l.wake ack).runCount } := by
  unfold Link.wake
  split
  · have h := l.choose_eq ack
    rw [h]
  · rfl

/-- TXD follows the transmitter after waking, if it did before. -/
theorem Link.wake_txd {l : Link} (h : l.txd = l.tx.levels) (ack : Bool) : (l.wake ack).txd = (l.wake ack).tx.levels := by
  unfold Link.wake
  split
  · rw [l.choose_eq ack]
  · exact h

section
variable (l : Link) (a : Bool)

@[simp] theorem Link.wake_rate : (l.wake a).rate = l.rate := by rw [l.wake_eq a]
@[simp] theorem Link.wake_receiver : (l.wake a).receiver = l.receiver := by rw [l.wake_eq a]
@[simp] theorem Link.wake_rxQueue : (l.wake a).rxQueue = l.rxQueue := by rw [l.wake_eq a]
@[simp] theorem Link.wake_awaitsReset : (l.wake a).awaitsReset = l.awaitsReset := by rw [l.wake_eq a]
@[simp] theorem Link.wake_retry : (l.wake a).retry = l.retry := by rw [l.wake_eq a]
@[simp] theorem Link.wake_replies : (l.wake a).replies = l.replies := by rw [l.wake_eq a]
@[simp] theorem Link.wake_reports : (l.wake a).reports = l.reports := by rw [l.wake_eq a]
@[simp] theorem Link.wake_windowCount : (l.wake a).windowCount = l.windowCount := by
  simp only [Link.windowCount]; rw [l.wake_eq a]
@[simp] theorem Link.wake_nextSeq : (l.wake a).nextSeq = l.nextSeq := by rw [l.wake_eq a]
@[simp] theorem Link.wake_lost : (l.wake a).lost = l.lost := by rw [l.wake_eq a]
@[simp] theorem Link.wake_resend : (l.wake a).resend = l.resend := by rw [l.wake_eq a]
@[simp] theorem Link.wake_connected : (l.wake a).connected = l.connected := by rw [l.wake_eq a]
@[simp] theorem Link.wake_silence : (l.wake a).silence = l.silence := by rw [l.wake_eq a]

end

/-- A woken link with the transmitter it had before is the link before. -/
theorem Link.wake_restore (l : Link) (a : Bool) :
    ({ l.wake a with tx := l.tx, txd := l.txd, runCount := l.runCount } : Link) = l := by
  rw [l.wake_eq a]

/-- A link that is SENDING is not changed by waking. -/
theorem Link.wake_of_sending {l : Link} (h : l.tx ≠ .idle) (a : Bool) : l.wake a = l := by
  simp [Link.wake, h]

/-- A link that is still IDLE after its choice is one with nothing to send: choosing again changes nothing. -/
@[simp] theorem Link.wake_wake (l : Link) (a : Bool) : (l.wake a).wake a = l.wake a := by
  by_cases h : (l.wake a).tx = .idle
  · unfold Link.wake at h ⊢
    split at h
    · rename_i hl
      simp only [hl, if_true, h]
      unfold Link.choose at h ⊢
      cases hr : l.replies.head? <;> cases he : l.eligible a <;> simp only [hr, he] at h ⊢
      · rw [show (l.transmit .idle).replies.head? = none from hr, show (l.transmit .idle).eligible a = none from he]
        rfl
      · cases h
      · cases h
      · split at h <;> cases h
    · rename_i hl
      exact absurd h hl
  · exact Link.wake_of_sending h a

/-- The vocabulary's choice of an IDLE transmitter is the machine's. -/
theorem chosen_eq (s : State) : chosen s = s.wake := by
  unfold chosen State.wake Link.wake
  split <;> rfl

@[simp] theorem State.wake_wake (s : State) : s.wake.wake = s.wake := by
  simp [State.wake]

/-- A state whose step ends in waking has served the transmitter. -/
theorem transmitterServed_of_wake {s u : State} (h1 : u.link.tx = s.wake.link.tx)
    (h2 : u.link.runCount = s.wake.link.runCount) (h3 : u.link.txd = s.wake.link.txd) :
    TransmitterServed s u.wake := by
  unfold TransmitterServed
  simp only [chosen_eq]
  rw [← h1, ← h2, ← h3]
  simp [State.wake]

/-- A command that changes nothing but lets an IDLE transmitter choose. -/
theorem State.carryOut_same {s : State} {effect : State → State} (h : effect s.wake = s.wake) :
    s.carryOut effect = .next s.wake := by
  simp [State.carryOut, h]

/-- A command is the same one on the state with the IDLE transmitter's choice made. -/
theorem State.carryOut_wake (s : State) (effect : State → State) : s.wake.carryOut effect = s.carryOut effect := by
  simp [State.carryOut]

end Sys2Proof.Machine
end

