-- ==== Sys2Proof/Laws/Serve.lean ====
section
/-! SUPPORT. What the executor's taking of a frame can do (R179 to R181). -/

namespace Sys2Proof.Machine

/-- The executor takes a frame, or not, whatever an IDLE transmitter chooses. -/
@[simp] theorem State.canTake_wake (s : State) (f : WireFrame) : s.wake.canTake f = s.canTake f := by
  simp [State.canTake]

@[simp] theorem Link.isRetry_wake (l : Link) (a : Bool) (f : WireFrame) : (l.wake a).isRetry f = l.isRetry f := by
  simp [Link.isRetry]

theorem Executes.wake {s : State} {f : WireFrame} (h : Executes s f) : Executes s.wake f := by
  simpa [Executes] using h

/-- The four things that can come of a frame offered to the executor. -/
theorem State.serve_cases (s : State) (f : WireFrame) (ok : Bool) (block : State → Answer) :
    (s.canTake f = false ∧ s.serve f ok block = s)
    ∨ (s.canTake f = true ∧ s.link.isRetry f = true ∧ s.serve f ok block = s.takeFrame.repeatReply)
    ∨ (Executes s f ∧ ok = true
        ∧ s.serve f ok block = (block s.takeFrame).2.answer f (block s.takeFrame).1)
    ∨ (Executes s f ∧ ok = false
        ∧ s.serve f ok block = s.takeFrame.answer f Status.badLength.bytes) := by
  unfold State.serve Executes
  by_cases h1 : s.canTake f = true
  · by_cases h2 : s.link.isRetry f = true
    · simp [h1, h2]
    · cases ok <;> simp [h1, h2]
  · simp [h1]

theorem State.serve_of_executes {s : State} {f : WireFrame} (h : Executes s f) (block : State → Answer) :
    s.serve f true block = (block s.takeFrame).2.answer f (block s.takeFrame).1 := by
  obtain ⟨h1, h2⟩ := h
  simp [State.serve, h1, h2]

theorem State.serve_badLength {s : State} {f : WireFrame} (h : Executes s f) (block : State → Answer) :
    s.serve f false block = s.takeFrame.answer f Status.badLength.bytes := by
  obtain ⟨h1, h2⟩ := h
  simp [State.serve, h1, h2]

theorem State.serve_waiting {s : State} {f : WireFrame} (h : s.canTake f = false) (ok : Bool)
    (block : State → Answer) : s.serve f ok block = s := by
  simp [State.serve, h]

/-- Answering a frame whose block has left the link as it found it but for the report queue. -/
theorem answered_of_block {s u : State} {f : WireFrame} {p : List Byte}
    (h : s.wake.takeFrame.link.OnlyReports u.link) : Answered s (u.answer f p).wake f p := by
  have k := h.keeps
  simp only [State.takeFrame_link] at k
  obtain ⟨k1, k2, k3, k4, k5, k6, k7, k8, k9, k10, k11, k12⟩ := k
  refine ⟨?_, ?_, transmitterServed_of_wake k7 k8 k12⟩
  · simp [Replied, k3, k6]
  · simp [SameLine, k1, k2, k4, k9, k10, k11]

/-- The report queue after answering is the one the block left. -/
theorem reportsOf_answer_wake (u : State) (f : WireFrame) (p : List Byte) :
    ReportsOf u.link (u.answer f p).wake := by
  simp [ReportsOf]

/-- A block that has submitted these reports and nothing else to the link. -/
theorem submitted_of_block {s u : State} {f : WireFrame} {p : List Byte} {rs : List Report}
    (h : u.link = rs.foldl Link.submit s.wake.takeFrame.link) : Submitted s (u.answer f p).wake rs := by
  have k : s.link.ReportsEq s.wake.takeFrame.link := by simp [Link.ReportsEq]
  have e := k.foldl rs
  rw [← h] at e
  simpa [Submitted, ReportsOf, Link.ReportsEq] using e

/-- A block that has left the link as it found it. -/
theorem sameReports_of_block {s u : State} {f : WireFrame} {p : List Byte}
    (h : u.link = s.wake.takeFrame.link) : SameReports s (u.answer f p).wake := by
  simp [SameReports, ReportsOf, h]

/-- A request row whose frame is executed: the block's outcome on the state in which an IDLE transmitter has chosen,
answered. -/
theorem exec_of_block {c : Instr} {s : State} {f : WireFrame} {ok : Bool} {block : State → Answer}
    (h : Executes s f) (hc : exec c s = s.carryOut (·.serve f ok block)) (hok : ok = true) :
    exec c s = .next ((block s.wake.takeFrame).2.answer f (block s.wake.takeFrame).1).wake := by
  subst hok
  rw [hc, State.carryOut, State.serve_of_executes h.wake]

/-- A request row whose block answers and changes nothing. -/
theorem onlyAnswers_of_block {c : Instr} {s : State} {f : WireFrame} {ok : Bool} {p : List Byte}
    {block : State → Answer} (h : Executes s f) (hc : exec c s = s.carryOut (·.serve f ok block)) (hok : ok = true)
    (hb : block s.wake.takeFrame = (p, s.wake.takeFrame)) : OnlyAnswers c s f p := by
  refine ⟨_, exec_of_block h hc hok, ?_⟩
  rw [hb]
  refine ⟨answered_of_block (Link.OnlyReports.refl _), ?_, ?_⟩
  · simp [SameReports, ReportsOf]
  · simp [SameButLink, SamePlant]

/-- A block that has left the link as it found it is answered. -/
theorem answered_of_same {s u : State} {f : WireFrame} {p : List Byte} (h : u.link = s.wake.takeFrame.link) :
    Answered s (u.answer f p).wake f p :=
  answered_of_block (by rw [h]; exact Link.OnlyReports.refl _)

/-- A block that has submitted reports and done nothing else to the link is answered. -/
theorem answered_of_submitted {s u : State} {f : WireFrame} {p : List Byte} {rs : List Report}
    (h : u.link = rs.foldl Link.submit s.wake.takeFrame.link) : Answered s (u.answer f p).wake f p :=
  answered_of_block (by rw [h]; exact Link.foldl_submit_onlyReports _ _)

end Sys2Proof.Machine
end

