-- ==== Sys2Proof/Laws/Operands.lean ====
section
/-! SUPPORT. What the operands of requests read: numbers that name a zone, a slot or a sensor. -/

namespace Sys2Proof.Machine

@[simp] theorem nat8_cons_zero (b : Byte) (p : List Byte) : nat8 (b :: p) 0 = b.toNat := rfl
@[simp] theorem nat8_cons_succ (b : Byte) (p : List Byte) (i : Nat) : nat8 (b :: p) (i + 1) = nat8 p i := rfl
@[simp] theorem at8_cons_zero (b : Byte) (p : List Byte) : at8 (b :: p) 0 = b := rfl
@[simp] theorem at8_cons_succ (b : Byte) (p : List Byte) (i : Nat) : at8 (b :: p) (i + 1) = at8 p i := rfl

@[simp] theorem byte_toNat (n : Nat) : (byte n).toNat = n % 256 := by
  simp [byte]

theorem nat8_lt (p : List Byte) (i : Nat) : nat8 p i < 256 := (at8 p i).isLt

theorem nat16_lt (p : List Byte) (i : Nat) : nat16 p i < 65536 := by
  have := nat8_lt p i; have := nat8_lt p (i + 1); unfold nat16; omega

theorem zoneOf_none {p : List Byte} (h : 11 < nat8 p 0) : zoneOf p = none := by
  have h' : ¬ nat8 p 0 < 12 := by omega
  simp [zoneOf, h']

theorem nibbleAt_none {p : List Byte} {i : Nat} (h : 15 < nat8 p i) : nibbleAt p i = none := by
  have h' : ¬ nat8 p i < 16 := by omega
  simp [nibbleAt, h']

@[simp] theorem zoneOf_byte (z : ZoneId) (p : List Byte) : zoneOf (byte z.val :: p) = some z := by
  have h := z.isLt
  have e : z.val % 256 = z.val := by omega
  simp [zoneOf, e]

theorem nibbleAt_eq {p : List Byte} {i : Nat} {k : Fin 16} (h : nat8 p i = k.val) : nibbleAt p i = some k := by
  have hk := k.isLt
  simp [nibbleAt, h]

@[simp] theorem nibbleAt_byte_zero (k : Fin 16) (p : List Byte) : nibbleAt (byte k.val :: p) 0 = some k := by
  have h := k.isLt
  exact nibbleAt_eq (by simp; omega)

@[simp] theorem nibbleAt_byte_one (b : Byte) (k : Fin 16) (p : List Byte) :
    nibbleAt (b :: byte k.val :: p) 1 = some k := by
  have h := k.isLt
  exact nibbleAt_eq (by simp [nat8, at8]; omega)

/-! ## The accepted lengths as sets of numbers (R198) -/

theorem appendLengthOk_eq (p : List Byte) :
    appendLengthOk p = decide (p.length ∈ [9, 17, 25, 33, 41, 49, 57, 65]) := by
  simp only [appendLengthOk, List.mem_cons, List.not_mem_nil, or_false]
  rw [decide_eq_decide]
  omega

theorem scanLengthOk_eq (p : List Byte) :
    scanLengthOk p = decide (0 < p.length ∧ p.length = 1 + nat8 p 0) := by
  simp only [scanLengthOk]
  rw [decide_eq_decide]
  cases p <;> simp

/-! ## Fields out of range -/

/-- A check and a field of a table say the same: the check finds nothing exactly when the field is in its range or not
carried, and it names the field by its code. -/
def Agrees (check : Bool × Field) (field : Prop × Byte) : Prop :=
  (check.1 = false ↔ field.1) ∧ field.2 = check.2.code

/-- Where the checks agree with the fields of a table one by one, the first check that fails names the first field out of
range, and none fails exactly when all are in range. -/
theorem firstBad_agrees {checks : List (Bool × Field)} {fields : List (Prop × Byte)}
    (h : List.Forall₂ Agrees checks fields) :
    (firstBad checks = none ↔ AllInRange fields)
    ∧ ∀ code, FirstOutOfRange fields code ↔ ∃ f, firstBad checks = some f ∧ f.code = code := by
  induction h with
  | nil => simp [firstBad, AllInRange, FirstOutOfRange]
  | @cons check field checks fields h _ ih =>
    obtain ⟨bad, f⟩ := check
    obtain ⟨ok, c⟩ := field
    obtain ⟨h1, h2⟩ := h
    obtain ⟨ih1, ih2⟩ := ih
    simp only at h1 h2
    subst h2
    cases bad
    · have hok : ok := h1.1 rfl
      refine ⟨?_, fun code => ?_⟩
      · simpa [firstBad, AllInRange, hok] using ih1
      · simp only [firstBad, Bool.false_eq_true, if_false, ← ih2 code]
        constructor
        · rintro ⟨before, ok', after, e, hbad, hb⟩
          cases before with
          | nil => simp at e; exact absurd (e.1.1.1 hok) hbad
          | cons y before =>
            simp only [List.cons_append, List.cons.injEq] at e
            exact ⟨before, ok', after, e.2, hbad, fun x hx => hb x (List.mem_cons_of_mem _ hx)⟩
        · rintro ⟨before, ok', after, e, hbad, hb⟩
          exact ⟨(ok, f.code) :: before, ok', after, by rw [e]; rfl, hbad, by simpa [hok] using hb⟩
    · have hok : ¬ok := fun k => by simpa using h1.2 k
      refine ⟨?_, fun code => ?_⟩
      · simp [firstBad, AllInRange, hok]
      · simp only [firstBad, if_true, Option.some.injEq, exists_eq_left']
        constructor
        · rintro ⟨before, ok', after, e, hbad, hb⟩
          cases before with
          | nil => simp at e; exact e.1.2
          | cons y before =>
            simp only [List.cons_append, List.cons.injEq] at e
            exact absurd (hb y (by simp)) (by rw [← e.1]; exact hok)
        · rintro rfl
          exact ⟨[], ok, fields, rfl, hok, by simp⟩

theorem cycleOf_isNone (n : Nat) : (cycleOf n).isNone = decide (n ∉ [2, 8, 32, 128]) := by
  unfold cycleOf
  split <;> simp_all

/-- DEVICE_SET judges the fields of R169's table in their order. -/
theorem deviceFault_agrees (p : List Byte) :
    (deviceFault p = none ↔ AllInRange (deviceFields p))
    ∧ ∀ code, FirstOutOfRange (deviceFields p) code ↔ ∃ f, deviceFault p = some f ∧ f.code = code := by
  refine firstBad_agrees ?_
  unfold deviceFields
  simp only [List.forall₂_cons, List.forall₂_nil_left_iff, Agrees, Field.code, cycleOf_isNone]
  simp
  grind

/-- ZONE_SET_PARAM judges the fields of R160's table in their order. -/
theorem paramFault_agrees (p : List Byte) :
    (paramFault p = none ↔ AllInRange (paramFields p))
    ∧ ∀ code, FirstOutOfRange (paramFields p) code ↔ ∃ f, paramFault p = some f ∧ f.code = code := by
  refine firstBad_agrees ?_
  unfold paramFields
  simp only [List.forall₂_cons, List.forall₂_nil_left_iff, Agrees, Field.code, guardsBad, guardBad, GuardInRange]
  simp
  grind

/-- SENSOR_SET judges its fields in the order of R106. -/
theorem sensorFault_agrees (p : List Byte) :
    (sensorFault p = none ↔ AllInRange (sensorFields p))
    ∧ ∀ code, FirstOutOfRange (sensorFields p) code ↔ ∃ f, sensorFault p = some f ∧ f.code = code := by
  refine firstBad_agrees ?_
  unfold sensorFields
  simp only [List.forall₂_cons, List.forall₂_nil_left_iff, Agrees, Field.code]
  simp
  grind

/-- Two bytes as one number. -/
theorem append_toNat (hi lo : Byte) : (hi ++ lo).toNat = hi.toNat * 256 + lo.toNat := by
  rw [BitVec.toNat_append, Nat.shiftLeft_eq, Nat.mul_comm]
  have h := Nat.two_pow_add_eq_or_of_lt lo.isLt hi.toNat
  omega

/-- A signed two-byte number is the two bytes taken together. -/
theorem int16_cons (hi lo : Byte) (p : List Byte) : int16 (hi :: lo :: p) 0 = (hi ++ lo).toInt := by
  have e := append_toNat hi lo
  rw [BitVec.toInt_eq_toNat_cond, e]
  simp only [int16, nat16, nat8_cons_zero, nat8_cons_succ]
  grind

end Sys2Proof.Machine
end

