-- ==== Sys2Proof/Laws/Trips.lean ====
section
/-! SUPPORT. What a trip can do, to one zone and to all twelve (R116 to R118, R121, R125). -/

namespace Sys2Proof.Machine

theorem bump_eq_min (m n : Nat) : bump m n = min m (n + 1) := by
  unfold bump; split <;> omega

theorem level_false (p : Polarity) : level p false = decide (p = .activeLow) := by
  cases p <;> rfl

theorem repeatTrip_eq (x : Zone) : x.repeatTrip = trippedAgain x := by
  simp [Zone.repeatTrip, trippedAgain, bump_eq_min]

theorem enterTripped_eq (x : Zone) (c : TripCause) (g : Option TripGuard) :
    x.enterTripped (x.tripRecord c g) = trippedFrom x c g := by
  simp [Zone.enterTripped, trippedFrom, Zone.tripRecord, recordOf, Zone.cut, Zone.returnHolding, ZoneRec.leave,
    FrameRec.cut, level_false]

/-- A trip as one update: the zone, the program it held, the report. -/
theorem State.trip_active {s : State} {z : ZoneId} (h : (s.zone z).zr.state.isActive = true) (c : TripCause)
    (g : Option TripGuard) :
    s.trip z c g = ((s.setZone z (trippedFrom (s.zone z) c g)).releaseProgram (s.zone z).zr.active).submit
      (.trip z (recordOf (s.zone z) c g)) := by
  unfold State.trip
  cases hs : (s.zone z).zr.state <;> simp [hs, ZoneState.isActive] at h
  all_goals simp only [enterTripped_eq, hs]; rfl

theorem State.trip_tripped {s : State} {z : ZoneId} (h : (s.zone z).zr.state = .tripped) (c : TripCause)
    (g : Option TripGuard) : s.trip z c g = s.setZone z (trippedAgain (s.zone z)) := by
  unfold State.trip
  simp [h, repeatTrip_eq]

theorem State.trip_idle {s : State} {z : ZoneId} (h : (s.zone z).zr.state = .idle) (c : TripCause)
    (g : Option TripGuard) : s.trip z c g = s := by
  unfold State.trip
  simp [h]

theorem ZoneState.active_cases (st : ZoneState) : st.isActive = true ∨ st = .tripped ∨ st = .idle := by
  cases st <;> simp [ZoneState.isActive]

theorem State.trip_zone (s : State) (z y : ZoneId) (c : TripCause) (g : Option TripGuard) :
    (s.trip z c g).zone y = if y = z then tripOf (s.zone z) c g else s.zone y := by
  rcases ZoneState.active_cases (s.zone z).zr.state with h | h | h
  · rw [State.trip_active h]
    simp only [State.submit_zone, State.releaseProgram_zone, State.zone_setZone]
    unfold tripOf
    cases hs : (s.zone z).zr.state <;> simp [hs, ZoneState.isActive] at h ⊢
  · rw [State.trip_tripped h]; simp [tripOf, h]
  · rw [State.trip_idle h]
    by_cases e : y = z
    · subst e; simp [tripOf, h]
    · simp [e]

theorem State.trip_slot (s : State) (z : ZoneId) (k : SlotId) (c : TripCause) (g : Option TripGuard) :
    (s.trip z c g).slot k =
      if (s.zone z).zr.state.isActive = true ∧ (s.zone z).zr.active = some k then
        { s.slot k with useCount := (s.slot k).useCount - 1 } else s.slot k := by
  rcases ZoneState.active_cases (s.zone z).zr.state with h | h | h
  · rw [State.trip_active h]
    simp [State.releaseProgram_slot, h]
  · rw [State.trip_tripped h]; simp [h, ZoneState.isActive]
  · rw [State.trip_idle h]; simp [h, ZoneState.isActive]

theorem State.trip_link (s : State) (z : ZoneId) (c : TripCause) (g : Option TripGuard) :
    (s.trip z c g).link =
      if (s.zone z).zr.state.isActive then s.link.submit (.trip z (recordOf (s.zone z) c g)) else s.link := by
  rcases ZoneState.active_cases (s.zone z).zr.state with h | h | h
  · rw [State.trip_active h]; simp [h]
  · rw [State.trip_tripped h]; simp [h, ZoneState.isActive]
  · rw [State.trip_idle h]; simp [h, ZoneState.isActive]

/-- What no trip touches. -/
theorem State.trip_keeps (s : State) (z : ZoneId) (c : TripCause) (g : Option TripGuard) :
    (s.trip z c g).store.free = s.store.free ∧ (s.trip z c g).sensors = s.sensors ∧ (s.trip z c g).scan = s.scan
    ∧ (s.trip z c g).stop = s.stop ∧ (s.trip z c g).modulator = s.modulator
    ∧ (s.trip z c g).device = s.device ∧ (s.trip z c g).pending = s.pending := by
  rcases ZoneState.active_cases (s.zone z).zr.state with h | h | h
  · rw [State.trip_active h]; simp [State.submit_store]
  · rw [State.trip_tripped h]; simp
  · rw [State.trip_idle h]; simp

/-! ## A cause that reaches several zones -/

/-- A trip cause that reaches the zones of a list in turn. -/
def State.tripList (s : State) (zs : List ZoneId) (c : TripCause) : State :=
  zs.foldl (fun s z => s.trip z c none) s

theorem State.tripAll_eq (s : State) (c : TripCause) : s.tripAll c = s.tripList allZones c := rfl

theorem State.tripList_zone (zs : List ZoneId) (s : State) (c : TripCause) (hn : zs.Nodup) (y : ZoneId) :
    (s.tripList zs c).zone y = if y ∈ zs then tripOf (s.zone y) c none else s.zone y := by
  induction zs generalizing s with
  | nil => simp [State.tripList]
  | cons z zs ih =>
    have hz := List.nodup_cons.1 hn
    have e : s.tripList (z :: zs) c = (s.trip z c none).tripList zs c := rfl
    rw [e, ih _ hz.2, State.trip_zone]
    by_cases h : y = z
    · subst h; simp [hz.1]
    · simp [h]

theorem State.tripList_slot (zs : List ZoneId) (s : State) (c : TripCause) (hn : zs.Nodup) (k : SlotId) :
    (s.tripList zs c).slot k = { s.slot k with
      useCount := (s.slot k).useCount
        - zs.countP (fun z => (s.zone z).zr.state.isActive && decide ((s.zone z).zr.active = some k)) } := by
  induction zs generalizing s with
  | nil => simp [State.tripList]
  | cons z zs ih =>
    have hz := List.nodup_cons.1 hn
    have e : s.tripList (z :: zs) c = (s.trip z c none).tripList zs c := rfl
    have hc : zs.countP (fun y => ((s.trip z c none).zone y).zr.state.isActive
          && decide (((s.trip z c none).zone y).zr.active = some k))
        = zs.countP (fun y => (s.zone y).zr.state.isActive && decide ((s.zone y).zr.active = some k)) := by
      apply List.countP_congr
      intro y hy
      have hne : y ≠ z := fun h => hz.1 (h ▸ hy)
      simp [State.trip_zone, hne]
    rw [e, ih _ hz.2, hc, State.trip_slot, List.countP_cons]
    by_cases h : (s.zone z).zr.state.isActive = true ∧ (s.zone z).zr.active = some k
    · simp [h, Nat.sub_sub, Nat.add_comm]
    · have h' : ¬((s.zone z).zr.state.isActive && decide ((s.zone z).zr.active = some k)) = true := by
        simpa using h
      simp only [h, h', if_false]
      simp

theorem State.tripList_link (zs : List ZoneId) (s : State) (c : TripCause) (hn : zs.Nodup) :
    (s.tripList zs c).link =
      ((zs.filter (fun z => (s.zone z).zr.state.isActive)).map
        (fun z => Report.trip z (recordOf (s.zone z) c none))).foldl Link.submit s.link := by
  induction zs generalizing s with
  | nil => rfl
  | cons z zs ih =>
    have hz := List.nodup_cons.1 hn
    have e : s.tripList (z :: zs) c = (s.trip z c none).tripList zs c := rfl
    have hsame : ∀ y ∈ zs, (s.trip z c none).zone y = s.zone y := by
      intro y hy
      have hne : y ≠ z := fun h => hz.1 (h ▸ hy)
      simp [State.trip_zone, hne]
    have hf : zs.filter (fun y => ((s.trip z c none).zone y).zr.state.isActive)
        = zs.filter (fun y => (s.zone y).zr.state.isActive) := by
      apply List.filter_congr
      intro y hy
      rw [hsame y hy]
    have hm : ∀ l : List ZoneId, (∀ y ∈ l, y ∈ zs) →
        l.map (fun y => Report.trip y (recordOf ((s.trip z c none).zone y) c none))
        = l.map (fun y => Report.trip y (recordOf (s.zone y) c none)) := by
      intro l hl
      apply List.map_congr_left
      intro y hy
      rw [hsame y (hl y hy)]
    rw [e, ih _ hz.2, hf, hm _ (fun y hy => (List.mem_filter.1 hy).1), State.trip_link, List.filter_cons]
    by_cases h : (s.zone z).zr.state.isActive = true
    · simp [h]
    · simp [h]

theorem State.tripList_keeps (zs : List ZoneId) (s : State) (c : TripCause) :
    (s.tripList zs c).store.free = s.store.free ∧ (s.tripList zs c).sensors = s.sensors
    ∧ (s.tripList zs c).scan = s.scan ∧ (s.tripList zs c).stop = s.stop
    ∧ (s.tripList zs c).modulator = s.modulator ∧ (s.tripList zs c).device = s.device
    ∧ (s.tripList zs c).pending = s.pending := by
  induction zs generalizing s with
  | nil => simp [State.tripList]
  | cons z zs ih =>
    have e : s.tripList (z :: zs) c = (s.trip z c none).tripList zs c := rfl
    have k := s.trip_keeps z c none
    have i := ih (s.trip z c none)
    rw [e]
    simp only [k] at i
    exact i

theorem allZones_nodup : allZones.Nodup := List.nodup_finRange 12

theorem mem_allZones (z : ZoneId) : z ∈ allZones := List.mem_finRange z

/-- Everything that a cause reaching all twelve zones does. -/
theorem State.tripAll_spec (s : State) (c : TripCause) :
    TrippedAll s (s.tripAll c) c ∧ ReleasedAll s (s.tripAll c)
    ∧ (s.tripAll c).link = (tripReports s c).foldl Link.submit s.link
    ∧ (s.tripAll c).device = s.device ∧ SamePlant s (s.tripAll c) ∧ (s.tripAll c).pending = s.pending := by
  have k := State.tripList_keeps allZones s c
  rw [State.tripAll_eq]
  refine ⟨fun z => ?_, ⟨k.1, fun j => ?_⟩, ?_, k.2.2.2.2.2.1, ⟨k.2.1, k.2.2.1, k.2.2.2.1, k.2.2.2.2.1⟩, k.2.2.2.2.2.2⟩
  · rw [State.tripList_zone _ _ _ allZones_nodup]
    simp [mem_allZones]
  · rw [State.tripList_slot _ _ _ allZones_nodup]
  · rw [State.tripList_link _ _ _ allZones_nodup]; rfl

end Sys2Proof.Machine
end

