-- ==== Sys2Proof/Laws/Programs.lean ====
section
/-! SUPPORT. The program store's operations: segments survive their way through a payload (R203, R207). -/

namespace Sys2Proof.Machine

theorem segAt_append (p : List Byte) (g : Seg) (rest : List Byte) :
    segAt (p ++ (g.bytes ++ rest)) p.length = g := by
  have h : ∀ j, at8 (p ++ (g.bytes ++ rest)) (p.length + j) = at8 (g.bytes ++ rest) j := by
    intro j
    simp [at8, List.getD_eq_getElem?_getD, List.getElem?_append_right]
  have h0 := h 0
  simp only [Nat.add_zero] at h0
  unfold segAt
  rw [h, h, h, h, h, h, h, h0]
  obtain ⟨a, b, c, d⟩ := g
  simp only [Seg.bytes, at8, List.cons_append, List.getD_cons_zero, List.getD_cons_succ, Seg.mk.injEq, true_and]
  refine ⟨?_, ?_, ?_⟩ <;> (apply BitVec.eq_of_getLsbD_eq; intro i hi; simp; grind)

theorem segsFrom_append (segs : List Seg) (p : List Byte) :
    segsFrom (p ++ segs.flatMap Seg.bytes) p.length segs.length = segs := by
  induction segs generalizing p with
  | nil => rfl
  | cons g segs ih =>
    simp only [List.flatMap_cons, List.length_cons, segsFrom, segAt_append, List.cons.injEq, true_and]
    have := ih (p ++ g.bytes)
    simpa [Seg.bytes] using this

theorem segBytes_length (segs : List Seg) : (segs.flatMap Seg.bytes).length = 8 * segs.length := by
  induction segs with
  | nil => rfl
  | cons g segs ih => rw [List.flatMap_cons, List.length_append, ih]; simp [Seg.bytes]; omega

/-- PROG_APPEND reads the segments that its payload was made of. -/
theorem appendSegs_cons (b : Byte) (segs : List Seg) : appendSegs (b :: segs.flatMap Seg.bytes) = segs := by
  have h := segsFrom_append segs [b]
  unfold appendSegs
  rw [List.length_cons, segBytes_length, Nat.add_sub_cancel, Nat.mul_div_cancel_left _ (by decide)]
  exact h

end Sys2Proof.Machine
end

