-- ==== Sys2Proof/Laws/Zones.lean ====
section
/-! SUPPORT. What the zone requests read and do, in the vocabulary of Safety: usable sensors, persisting guard
conditions, ZONE_STATE reports, and a zone request whose block sets one zone and submits reports. -/

namespace Sys2Proof.Machine

theorem SensorStatus.usable_iff (st : SensorStatus) : st.usable = true ↔ st = .valid ∨ st = .suspect := by
  cases st <;> simp [SensorStatus.usable]

theorem usable_iff (s : State) (i : SensorId) : (s.sensor i).status.usable = true ↔ Usable s i :=
  SensorStatus.usable_iff _

theorem not_usable_iff (s : State) (i : SensorId) : (s.sensor i).status.usable = false ↔ ¬Usable s i := by
  rw [← usable_iff]; simp

theorem State.feedbackBroken_iff (s : State) (z : ZoneId) : s.feedbackBroken z = true ↔ FeedbackBroken s z := by
  unfold State.feedbackBroken FeedbackBroken
  cases (s.zone z).live.feedback with
  | none => simp
  | some i => simp [not_usable_iff]

theorem hasClosedLoop_iff (segs : List Seg) : hasClosedLoop segs = true ↔ NeedsFeedback segs := by
  simp [hasClosedLoop, NeedsFeedback]

theorem judge_ne_inside (g : GuardEntry) (r : Int) :
    judge g r ≠ .inside ↔ g.high < r ∨ ∃ l, g.low = some l ∧ r < l := by
  unfold judge
  by_cases h : g.high < r
  · simp [h]
  · cases hl : g.low with
    | none => simp [h]
    | some l => by_cases hr : r < l <;> simp [h, hr]

theorem State.guardPersists_iff (s : State) (g : GuardEntry) : s.guardPersists g = true ↔ Persists s g := by
  unfold State.guardPersists Persists
  cases (s.sensor g.sensor).lastScaled with
  | none => simp
  | some r => simp [judge_ne_inside]

/-- Finding the first element that meets a test, when the list is cut at it. -/
theorem find?_at {α : Type} {p : α → Bool} {l a c : List α} {b : α} (h : l = a ++ b :: c)
    (ha : ∀ x ∈ a, p x = false) (hb : p b = true) : l.find? p = some b := by
  subst h
  rw [List.find?_append]
  have : a.find? p = none := by
    rw [List.find?_eq_none]
    intro x hx
    simp [ha x hx]
  simp [this, hb]

theorem find?_zipIdx_at {α : Type} {p : α → Bool} {l a c : List α} {b : α} (h : l = a ++ b :: c)
    (ha : ∀ x ∈ a, p x = false) (hb : p b = true) :
    l.zipIdx.find? (fun x => p x.1) = some (b, a.length) := by
  subst h
  rw [List.zipIdx_append, List.zipIdx_cons, Nat.zero_add]
  refine find?_at rfl ?_ ?_
  · intro x hx
    exact ha _ (List.fst_mem_of_mem_zipIdx hx)
  · simpa using hb

theorem State.guardNotReady_at {s : State} {z : ZoneId} {a c : List GuardEntry} {g : GuardEntry}
    (h : (s.zone z).live.guards = a ++ g :: c) (ha : ∀ x ∈ a, Usable s x.sensor) (hg : ¬Usable s g.sensor) :
    s.guardNotReady z = some g.sensor := by
  unfold State.guardNotReady
  rw [find?_at h (fun x hx => by simpa using (usable_iff _ _).2 (ha x hx))
    (by simpa using (not_usable_iff _ _).2 hg)]
  rfl

theorem State.guardNotReady_none {s : State} {z : ZoneId}
    (h : ∀ g ∈ (s.zone z).live.guards, Usable s g.sensor) : s.guardNotReady z = none := by
  unfold State.guardNotReady
  rw [Option.map_eq_none_iff, List.find?_eq_none]
  intro g hg
  simpa using (usable_iff _ _).2 (h g hg)

theorem State.guardStillActive_at {s : State} {z : ZoneId} {a c : List GuardEntry} {g : GuardEntry}
    (h : (s.zone z).live.guards = a ++ g :: c) (ha : ∀ x ∈ a, ¬Persists s x) (hg : Persists s g) :
    s.guardStillActive z = some (a.length, g.sensor) := by
  unfold State.guardStillActive
  rw [find?_zipIdx_at h (fun x hx => by have := ha x hx; rw [← guardPersists_iff] at this; simpa using this)
    ((guardPersists_iff _ _).2 hg)]
  rfl

theorem State.guardStillActive_none {s : State} {z : ZoneId}
    (h : ∀ g ∈ (s.zone z).live.guards, ¬Persists s g) : s.guardStillActive z = none := by
  unfold State.guardStillActive
  rw [Option.map_eq_none_iff, List.find?_eq_none]
  intro g hg
  have := h g.1 (List.fst_mem_of_mem_zipIdx hg)
  rw [← guardPersists_iff] at this
  simpa using this

/-- A ZONE_STATE report sent is the selected reports submitted. -/
theorem State.reportState_link_eq (s : State) (z : ZoneId) (old : ZoneState) (why : StateReason) :
    (s.reportState z old why).link = (stateReports z (s.zone z) old why).foldl Link.submit s.link := by
  rw [State.reportState_link]
  unfold stateReports
  split <;> rfl

/-- The expiry of a running silence timer at the link (R192). -/
theorem State.loseLink_some {s : State} {t : Nat} (h : s.link.silence = some t) :
    s.loseLink =
      { s with link := ({ s.link with connected := false, silence := none } : Link).submit (.linkLost t) } := by
  simp [State.loseLink, h, State.submit]

/-- All that the expiry does to a zone (R62). -/
theorem State.holdForLink_eq (s : State) (z : ZoneId) :
    s.holdForLink z =
      { s.setZone z (linkHeld (s.zone z)) with
        link := (linkReports z (s.zone z)).foldl Link.submit s.link } := by
  have h : linkHeld (s.zone z) = { s.zone z with zr := (s.zone z).zr.holdFor .link } := by
    unfold linkHeld ZoneRec.holdFor
    cases hs : (s.zone z).zr.state <;>
      simp [Causes.only, Causes.union, Causes.none, targetFrom, hs]
  unfold State.holdForLink State.holdZone linkReports
  simp only [h]
  split
  · rfl
  · unfold State.reportState stateReports
    simp only [State.zone_setZone, if_true]
    split <;> rfl

/-- A zone request whose block sets its zone and submits reports. -/
theorem zoneAnswers_of_block {c : Instr} {s u : State} {f : WireFrame} {ok : Bool} {payload : List Byte}
    {block : State → Answer} {z : ZoneId} {x : Zone} {rs : List Report}
    (h : Executes s f) (hc : exec c s = s.carryOut (·.serve f ok block)) (hok : ok = true)
    (hb : block s.wake.takeFrame = (payload, u)) (hz : u.zones = s.zones.set z.val x)
    (hl : u.link = rs.foldl Link.submit s.wake.takeFrame.link) (hs : u.store = s.store) (hd : u.device = s.device)
    (hp : SamePlant s u) (hq : u.pending = s.pending) : ZoneAnswers c s f payload z x rs := by
  refine ⟨_, exec_of_block h hc hok, ?_⟩
  rw [hb]
  have hzone : ∀ y, u.zone y = (s.setZone z x).zone y := by
    intro y
    unfold State.zone State.setZone
    rw [hz]
  refine ⟨answered_of_submitted hl, ⟨?_, ?_, ?_, ?_, ?_⟩, ?_, submitted_of_block hl⟩
  · simp [hzone]
  · intro y hy; simp [hzone, hy]
  · simpa using hd
  · simpa [SamePlant] using hp
  · simpa using hq
  · simpa using hs

/-- A zone request whose block sets its zone and sends a ZONE_STATE report. -/
theorem zoneAnswers_of_report {c : Instr} {s : State} {f : WireFrame} {ok : Bool} {payload : List Byte}
    {block : State → Answer} {z : ZoneId} {x : Zone} {old : ZoneState} {why : StateReason}
    (h : Executes s f) (hc : exec c s = s.carryOut (·.serve f ok block)) (hok : ok = true)
    (hb : block s.wake.takeFrame = (payload, (s.wake.takeFrame.setZone z x).reportState z old why)) :
    ZoneAnswers c s f payload z x (stateReports z x old why) := by
  refine zoneAnswers_of_block h hc hok hb ?_ ?_ ?_ ?_ ?_ ?_
  · simp [State.setZone, State.takeFrame]
  · rw [State.reportState_link_eq]; simp
  · simp
  · simp
  · simp [SamePlant]
  · simp

/-- A zone request whose block sets its zone and sends nothing. -/
theorem zoneAnswers_of_set {c : Instr} {s : State} {f : WireFrame} {ok : Bool} {payload : List Byte}
    {block : State → Answer} {z : ZoneId} {x : Zone}
    (h : Executes s f) (hc : exec c s = s.carryOut (·.serve f ok block)) (hok : ok = true)
    (hb : block s.wake.takeFrame = (payload, s.wake.takeFrame.setZone z x)) : ZoneAnswers c s f payload z x [] := by
  refine zoneAnswers_of_block h hc hok hb ?_ ?_ ?_ ?_ ?_ ?_
  · simp [State.setZone, State.takeFrame]
  · simp
  · simp
  · simp
  · simp [SamePlant]
  · simp

end Sys2Proof.Machine
end

