-- ==== Sys2Proof/Laws/Staging.lean ====
section
/-! SUPPORT. What the checks of ZONE_COMMIT and of SCAN_SET decide, in the vocabulary of Safety (R91, R156, R164). -/

namespace Sys2Proof.Machine

theorem sumZones_congr {f g : ZoneId → Nat} (h : ∀ z, f z = g z) : sumZones f = (allZones.map g).sum := by
  unfold sumZones
  congr 1
  exact List.map_congr_left (fun z _ => h z)

theorem State.budgetPending_iff (s : State) : s.budgetPending = true ↔ BudgetPending s := by
  simp [State.budgetPending, BudgetPending]

theorem State.reservesExceed_eq_false (s : State) (z : ZoneId) :
    s.reservesExceed z = false ↔ ReservesFit s z := by
  unfold State.reservesExceed ReservesFit State.checkedBudget State.reserveInCheck
  simp only [decide_eq_false_iff_not, Nat.not_lt]
  by_cases hb : BudgetPending s
  · have := s.budgetPending_iff.2 hb
    simp only [this, hb, not_true_eq_false, false_imp_iff, true_and, forall_const, if_true]
    rfl
  · have : s.budgetPending = false := by rw [← s.budgetPending_iff] at hb; simpa using hb
    simp only [this, hb, not_false_eq_true, false_imp_iff, and_true, forall_const]
    rfl

theorem State.countedWith_eq (s : State) (z : ZoneId) :
    s.countedWith z = (allZones.map (fun y => if y = z ∨ (s.zone y).pending = true
        then max ((s.zone y).live.weight * (s.zone y).live.reserve) ((s.zone y).staged.weight * (s.zone y).staged.reserve)
        else (s.zone y).live.weight * (s.zone y).live.reserve)).sum := by
  apply sumZones_congr
  intro y
  unfold Zone.counted Params.wr
  by_cases h1 : y = z <;> by_cases h2 : (s.zone y).pending = true <;> simp_all

theorem State.poolTooFull_eq_false (s : State) (z : ZoneId) : s.poolTooFull z = false ↔ PoolHasRoom s z := by
  unfold State.poolTooFull PoolHasRoom State.holdings
  rw [s.countedWith_eq z]
  cases s.device.live.governor
  · simp
  · simp only [Bool.true_and, decide_eq_false_iff_not, Nat.not_lt, forall_const]
    rfl

theorem restrictedDiffers_iff (a b : Params) : restrictedDiffers a b = true ↔ RestrictedDiffer a b := by
  simp [restrictedDiffers, RestrictedDiffer]

theorem sameGuardSensor_iff (gs : List GuardEntry) :
    sameGuardSensor gs = true ↔ ∃ a b, gs = [a, b] ∧ a.sensor = b.sensor := by
  unfold sameGuardSensor
  split
  · simp
  · rename_i hn
    simp only [Bool.false_eq_true, false_iff, not_exists, not_and]
    intro a b he
    exact absurd he (hn a b)

theorem State.uses_iff (s : State) (i : SensorId) : (allZones.any (fun z => (s.zone z).uses i)) = true ↔ InUse s i := by
  simp [Zone.uses, InUse, mem_allZones]

end Sys2Proof.Machine
end

