-- ==== Sys2Proof/Laws/Orders.lean ====
section
/-! SUPPORT. The order that a command carries is the order its effects take (log entry 8). -/

namespace Sys2Proof.Machine

theorem orderOf_of_isOrder {n : Nat} {zs : List (Fin n)} (h : isOrder n (zs.map Fin.val) = true) :
    orderOf n (zs.map Fin.val) = zs := by
  unfold orderOf
  rw [if_pos h, List.filterMap_map]
  have : ((fun k => if h : k < n then some (⟨k, h⟩ : Fin n) else none) ∘ Fin.val) = some := by
    funext z
    simp
  rw [this, List.filterMap_some]

theorem isOrder_of_perm {n : Nat} {zs : List (Fin n)} (h : zs.Perm (List.finRange n)) :
    isOrder n (zs.map Fin.val) = true := by
  have hn : zs.Nodup := h.nodup_iff.2 (List.nodup_finRange n)
  simp [isOrder, h.length_eq, hn.map Fin.val_injective]

/-- A permutation of the numbers below `n`, carried by a command, is taken as it stands. -/
theorem orderOf_of_perm {n : Nat} {zs : List (Fin n)} (h : zs.Perm (List.finRange n)) :
    orderOf n (zs.map Fin.val) = zs :=
  orderOf_of_isOrder (isOrder_of_perm h)

/-- Any other operand leaves number order. -/
theorem orderOf_of_not {n : Nat} {order : List Nat} (h : isOrder n order = false) :
    orderOf n order = List.finRange n := by
  simp [orderOf, h]

/-- Whatever the operand, the order is one of the numbers below `n`, each of them once. -/
theorem orderOf_perm (n : Nat) (order : List Nat) : (orderOf n order).Perm (List.finRange n) := by
  cases h : isOrder n order
  · rw [orderOf_of_not h]
  · simp only [isOrder, Bool.and_eq_true, decide_eq_true_eq, List.all_eq_true] at h
    obtain ⟨⟨hl, hb⟩, hn⟩ := h
    obtain ⟨zs, rfl⟩ : ∃ zs : List (Fin n), order = zs.map Fin.val := by
      clear hl hn
      induction order with
      | nil => exact ⟨[], rfl⟩
      | cons a l ih =>
        obtain ⟨zs, hz⟩ := ih (fun x hx => hb x (List.mem_cons_of_mem _ hx))
        exact ⟨⟨a, hb a List.mem_cons_self⟩ :: zs, by simp [hz]⟩
    have hz : zs.Nodup := List.Nodup.of_map _ hn
    have ho : isOrder n (zs.map Fin.val) = true := by
      simp only [isOrder, Bool.and_eq_true, decide_eq_true_eq, List.all_eq_true]
      exact ⟨⟨hl, hb⟩, hn⟩
    rw [orderOf_of_isOrder ho]
    refine (List.perm_ext_iff_of_nodup hz (List.nodup_finRange n)).2 (fun a => ⟨fun _ => List.mem_finRange a, fun _ => ?_⟩)
    have hc : zs.toFinset = Finset.univ := by
      rw [← Finset.card_eq_iff_eq_univ, List.toFinset_card_of_nodup hz]
      simpa using hl
    have := Finset.mem_univ a
    rw [← hc] at this
    simpa using this

/-! ## What falls at a cycle start -/

/-- `b` comes before every other element of its kind. -/
theorem find?_first {α : Type} {p : α → Bool} {b : α} {l : List α} (hb : p b = true) :
    (l.find? p = none ∨ l.find? p = some b)
      ↔ ∀ a earlier later, l = earlier ++ a :: later → p a = true → a ≠ b → b ∈ earlier := by
  constructor
  · rintro (h | h) a earlier later rfl ha hab
    · exact absurd ha (List.find?_eq_none.1 h a (by simp))
    · rw [List.find?_append] at h
      cases he : earlier.find? p with
      | none => simp [he, ha, hab] at h
      | some c =>
        rw [he] at h
        obtain rfl : c = b := by simpa using h
        exact List.mem_of_find?_eq_some he
  · intro h
    cases hf : l.find? p with
    | none => exact .inl rfl
    | some a =>
      obtain ⟨ha, as, bs, hl, hn⟩ := List.find?_eq_some_iff_append.1 hf
      by_cases hab : a = b
      · exact .inr (by rw [hab])
      · have := hn b (h a as bs hl ha hab)
        simp [hb] at this

/-- The check on CYCLE_START's operand is what the statements call an order of its events. -/
theorem isCycleOrder_iff {order : List CycleEvent} : isCycleOrder order = true ↔ CycleOrder order := by
  have link : (order.find? CycleEvent.isLink = none ∨ order.find? CycleEvent.isLink = some .expiry)
      ↔ ∀ z earlier later, order = earlier ++ .hold z :: later → .expiry ∈ earlier := by
    rw [find?_first rfl]
    refine ⟨fun h z _ _ e => h (.hold z) _ _ e rfl (by simp), fun h a _ _ e ha hab => ?_⟩
    cases a with
    | hold z => exact h z _ _ e
    | expiry => exact absurd rfl hab
    | start => cases ha
    | boundary z => cases ha
  have cycle : order.find? (fun e => !e.isLink) = none ∨ order.find? (fun e => !e.isLink) = some .start
      ↔ ∀ z earlier later, order = earlier ++ .boundary z :: later → .start ∈ earlier := by
    rw [find?_first rfl]
    refine ⟨fun h z _ _ e => h (.boundary z) _ _ e rfl (by simp), fun h a _ _ e ha hab => ?_⟩
    cases a with
    | boundary z => exact h z _ _ e
    | start => exact absurd rfl hab
    | expiry => cases ha
    | hold z => cases ha
  have some_of_perm : (order.Perm plainCycle ∨ order.Perm (plainCycle ++ linkExpiry)) →
      order.find? (fun e => !e.isLink) ≠ none := by
    rintro (h | h) hn <;>
      exact absurd (List.find?_eq_none.1 hn .start (h.mem_iff.2 (by simp [plainCycle]))) (by decide)
  unfold isCycleOrder CycleOrder
  rw [← cycle, ← link]
  simp only [Bool.and_eq_true, Bool.or_eq_true, List.isPerm_iff, decide_eq_true_eq, and_assoc]
  exact and_congr_right (fun h => and_congr_left' ⟨.inr, fun o => o.resolve_left (some_of_perm h)⟩)

theorem CycleOrder.nodup {order : List CycleEvent} (h : CycleOrder order) : order.Nodup := by
  have plain : (CycleEvent.start :: allZones.map .boundary).Nodup := by decide
  have both : ((CycleEvent.start :: allZones.map .boundary) ++ (CycleEvent.expiry :: allZones.map .hold)).Nodup := by decide
  exact h.1.elim (fun p => p.nodup_iff.2 plain) (fun p => p.nodup_iff.2 both)

/-- What stands before the cycle start. -/
theorem CycleOrder.takeWhile_start {early late : List CycleEvent} (h : CycleOrder (early ++ .start :: late)) :
    (early ++ .start :: late).takeWhile (fun e => decide (e ≠ .start)) = early := by
  have hn := h.nodup
  rw [List.takeWhile_append_of_pos, List.takeWhile_cons_of_neg (by simp), List.append_nil]
  intro a ha
  have := (List.nodup_append.1 hn).2.2 a ha .start (by simp)
  simpa using this

theorem State.restartsSilence_iff (s : State) :
    s.restartsSilence = true ↔ s.link.connected = true ∧ (nextDevice s).timeout ≠ s.device.live.timeout := by
  unfold State.restartsSilence nextDevice
  cases s.device.pending <;> simp [ne_comm]

theorem State.canExpire_iff {s : State} {order : List CycleEvent} (h : CycleOrder order) :
    s.canExpire order = true ↔ CanExpire s order := by
  obtain ⟨early, late, rfl⟩ : ∃ early late, order = early ++ .start :: late :=
    List.append_of_mem (h.1.elim (fun p => p.mem_iff.2 (by simp)) (fun p => p.mem_iff.2 (by simp)))
  unfold State.canExpire CanExpire
  rw [h.takeWhile_start]
  simp only [Bool.and_eq_true, Bool.or_eq_true, Bool.not_eq_true', Option.isSome_iff_ne_none,
    List.contains_iff_mem, ← State.restartsSilence_iff]
  refine and_congr_right fun _ => ⟨?_, fun k => ?_⟩
  · intro k earlier later e
    have h' : CycleOrder (earlier ++ .start :: later) := e ▸ h
    obtain rfl : early = earlier := by rw [← h.takeWhile_start, e, h'.takeWhile_start]
    exact fun r => k.resolve_left (by simp [r])
  · cases hr : s.restartsSilence with
    | false => exact .inl rfl
    | true => exact .inr (k early late rfl hr)

/-- An order whose expiry, if it has one, can fall is taken as it stands. -/
theorem State.cycleOrder_of {s : State} {order : List CycleEvent} (h : CycleOrder order)
    (he : .expiry ∈ order → CanExpire s order) : s.cycleOrder order = order := by
  unfold State.cycleOrder
  rw [if_pos (isCycleOrder_iff.2 h)]
  dsimp only
  split
  · rfl
  · rename_i hc
    rw [State.canExpire_iff h] at hc
    rw [List.filter_eq_self]
    intro e hm
    have hn : .expiry ∉ order := fun k => hc (he k)
    cases e with
    | start | boundary => rfl
    | expiry => exact absurd hm hn
    | hold z =>
      obtain ⟨a, b, rfl⟩ := List.append_of_mem hm
      exact absurd (List.mem_append_left _ (h.2.2 z a b rfl)) hn

end Sys2Proof.Machine
end

