-- ==== Sys2Proof/Tests/Slice0.lean ====
section
/-! SUPPORT. Tests of single steps against the spec's worked examples and tables, the WellFormed smoke test, and the
witnesses of the statements' hypotheses. -/

namespace Sys2Proof.Tests

open Sys2Proof Sys2Proof.Machine

-- One theorem after the other: elaborated at once, these kernel evaluations wait on one thread each.
set_option Elab.async false

/-! ## Helpers -/

/-- The state after a command. -/
def after (c : Instr) (s : State) : Option State :=
  match exec c s with
  | .next t => some t
  | _ => none

/-- The state with one frame in the receive queue. -/
def queued (f : WireFrame) (s : State) : State := { s with link := { s.link with rxQueue := [f] } }

/-- The state with the frame of a request in the receive queue. -/
def offered (c : Instr) (s : State) : State :=
  match requestFrame c with
  | some f => queued f s
  | none => s

/-- The payload of the reply to a request taken from the receive queue. -/
def reply (c : Instr) (s : State) : Option (List Byte) :=
  (after c (offered c s)).bind (fun t => t.link.replies.getLast?.map WireFrame.payload)

/-- The state after a request taken from the receive queue. -/
def served (c : Instr) (s : State) : Option State := after c (offered c s)

/-- One zone's record changed. -/
def withZone (z : ZoneId) (f : Zone → Zone) (s : State) : State := s.setZone z (f (s.zone z))

/-- A zone in a state, its other data as after reset. -/
def zoneAs (z : ZoneId) (st : ZoneState) (s : State) : State :=
  withZone z (fun x => { x with zr := { x.zr with state := st } }) s

/-- A sensor with a status. -/
def sensorAs (i : SensorId) (st : SensorStatus) (s : State) : State :=
  s.setSensor i { s.sensor i with status := st }

/-- A segment by its head byte, value, duration and band. -/
def mk (head value duration band : Nat) : Seg :=
  ⟨BitVec.ofNat 8 head, BitVec.ofNat 16 value, BitVec.ofNat 24 duration, BitVec.ofNat 16 band⟩

/-- The program of the worked example in 01_program_store.md, before its END. -/
def example01 : List Seg :=
  [mk 0x0C 800 200 0, mk 0x28 3 0 0, mk 0x1F 900 100 10, mk 0x16 0 60 15, mk 0x30 0 0 0, mk 0x0C 200 300 0]

/-- A program of one DRIVE and an END. -/
def driveProgram : List Seg := [mk 0x24 2000 40 0, mk 0x40 0 0 0]

/-- A slot with a program in a state. -/
def slotAs (k : SlotId) (st : SlotState) (segs : List Seg) (s : State) : State :=
  { s.setSlot k { state := st, segs := segs, useCount := 0, sealResult := none } with
    store := { (s.setSlot k { state := st, segs := segs, useCount := 0, sealResult := none }).store with
      free := s.store.free - segs.length } }

/-! ## WellFormed: an ill-formed term for each check -/

theorem test_wf_payload : (Instr.ping 0 (List.replicate 121 0)).wf = false := by decide +kernel
theorem test_wf_payload_limit : (Instr.ping 0 (List.replicate 120 0)).wf = true := by decide +kernel
theorem test_wf_unknown_kind : (Instr.unknownKind 0 0x1F []).wf = false := by decide
theorem test_wf_good_frame : (Instr.goodFrame 0 1 (List.replicate 121 0)).wf = false := by decide +kernel
theorem test_wf_silence_order : (Instr.silenceTimerExpiry [0, 0, 2, 3, 4, 5, 6, 7, 8, 9, 10, 11]).wf = false := by
  decide
theorem test_wf_cycle_order :
    (Instr.cycleStart (plainCycle.drop 1)).wf = false
    ∧ (Instr.cycleStart (plainCycle.drop 1 ++ [.start])).wf = false
    ∧ (Instr.cycleStart (plainCycle ++ linkExpiry.drop 1 ++ [.expiry])).wf = false
    ∧ (Instr.cycleStart plainCycle).wf = true ∧ (Instr.cycleStart (linkExpiry ++ plainCycle)).wf = true := by
  decide +kernel
theorem test_wf_conversion_order : (Instr.conversionCompletion 0 (List.range 12)).wf = false := by decide

/-! ## No row of the table gives bits -/

theorem test_decode_none : decodeTableWord 8 1 = none ∧ decodeTableWord 0 0 = none := ⟨rfl, rfl⟩
theorem test_fetch_word_keeps : State.reset.withFetchWord 8 1 = State.reset := rfl

/-! ## Frames (R174: the code of the digits 1 to 9 is 0x29B1) -/

theorem test_crc : crc16 [0x31, 0x32, 0x33, 0x34, 0x35, 0x36, 0x37, 0x38, 0x39] = 0x29B1 := by
  decide +kernel
theorem test_sync_begins : (after (.receivedByte 0xC3) State.reset).map (·.link.receiver) = some (.collecting []) := by
  decide
theorem test_length_loses :
    (after (.receivedByte 121) { State.reset with link := { State.reset.link with receiver := .collecting [] } }).map
      (fun t => (t.link.receiver, t.link.reports.length)) = some (.hunting, 2) := by decide +kernel
/-- R197: the reply's KIND is the request's with bits 7 and 6 clear; a repeat sets bit 6. -/
theorem test_reply_kind :
    (served (.ping 9 [1]) State.reset).map (fun t => t.link.replies) = some [⟨9, 1, [0, 1]⟩] := by decide +kernel

/-! ## Requests, from the tables of 11_requests_and_reports.md -/

theorem test_identify :
    reply (.identify 1 []) State.reset
      = some [0, 0x4F, 0x57, 0x04, 0xC0, 3, 12, 16, 24, 1, 0x80, 16, 1, 0x80] := by decide +kernel
theorem test_bad_length : reply (.identify 1 [0]) State.reset = some [0x11] := by decide +kernel
theorem test_unknown_kind : reply (.unknownKind 1 0x20 []) State.reset = some [0x10] := by decide +kernel
theorem test_restart : (served (.restart 1 []) State.reset).map (·.link.awaitsReset) = some true := by decide +kernel
theorem test_all_stop :
    reply (.allStop 1 []) (zoneAs 11 .keeping (zoneAs 0 .tripped State.reset)) = some [0, 1] := by decide +kernel
/-- 10_host_link.md, a report go-back: ACK_REPORTS 26 with 24 to 26 sent leaves the oldest at 27. -/
theorem test_ack :
    reply (.ackReports 1 [26])
      { State.reset with
        device := { State.reset.device with live := { DeviceRec.default with ack := true } }
        link := { State.reset.link with
          reports := [⟨24, .linkRestored, .sent⟩, ⟨25, .linkRestored, .sent⟩, ⟨26, .linkRestored, .sent⟩,
            ⟨27, .linkRestored, .due⟩, ⟨28, .linkRestored, .due⟩, ⟨29, .linkRestored, .due⟩,
            ⟨30, .linkRestored, .due⟩]
          resend := some 5 } } = some [0, 1, 27, 4] := by decide +kernel
theorem test_device_set :
    (served (.deviceSet 1 [0x24, 8, 0, 0, 6, 0, 0, 20]) State.reset).map
      (fun t => (t.device.staged.budget, t.device.staged.resend, t.device.live.budget)) = some (6, 20, 0) := by
  decide +kernel
theorem test_device_set_range : reply (.deviceSet 1 [0x20, 0, 0, 0, 0, 0, 0, 21]) State.reset = some [0x12, 27] := by
  decide +kernel
theorem test_device_get : reply (.deviceGet 1 [0]) State.reset = some [0, 0, 0, 8, 0, 0, 0, 20, 0, 5] := by
  decide +kernel
theorem test_device_commit : reply (.deviceCommit 1 []) State.reset = some [1] := by decide +kernel
/-- 01_program_store.md, worked example: opening slot 5 on an empty pool. -/
theorem test_prog_open : reply (.progOpen 1 [5]) State.reset = some [0, 1, 0x80] := by decide +kernel
/-- The first append of that example: length 6, free count 378. -/
theorem test_prog_append :
    reply (.progAppend 1 (5 :: example01.flatMap Seg.bytes)) (slotAs 5 .opened [] State.reset)
      = some [0, 6, 1, 0x7A] := by decide +kernel
/-- R7: a slot of length 250 refuses six segments. -/
theorem test_prog_append_255 :
    reply (.progAppend 1 (5 :: example01.flatMap Seg.bytes))
      (slotAs 5 .opened (List.replicate 250 (mk 0x30 0 0 0)) State.reset) = some [0x15, 0, 0x86, 250] := by
  decide +kernel
/-- The first seal of that example: NO_END at index 5. -/
theorem test_prog_seal :
    reply (.progSeal 1 [5]) (slotAs 5 .opened example01 State.reset) = some [0x1B, 5, 5] := by decide +kernel
theorem test_prog_seal_passes :
    (served (.progSeal 1 [5]) (slotAs 5 .opened (example01 ++ [mk 0x40 0 0 0]) State.reset)).map
      (fun t => (t.slot 5).state) = some .sealed := by decide +kernel
theorem test_prog_delete :
    reply (.progDelete 1 [5]) (slotAs 5 .sealed example01 State.reset) = some [0, 1, 0x80] := by decide +kernel
theorem test_prog_info :
    reply (.progInfo 1 [5]) (slotAs 5 .opened example01 State.reset) = some [0, 9, 6, 0, 0, 0, 1, 0x7A] := by
  decide +kernel
theorem test_prog_read :
    reply (.progRead 1 [5, 1, 1]) (slotAs 5 .opened example01 State.reset)
      = some [0, 5, 1, 1, 0x28, 0, 3, 0, 0, 0, 0, 0] := by decide +kernel

/-! ## Zones -/

/-- R50, R51: a program of DRIVE and END needs no feedback sensor. -/
theorem test_start :
    (served (.zoneStart 1 [3, 2, 1, 0xFF, 0x38]) (slotAs 2 .sealed driveProgram State.reset)).map
      (fun t => ((t.zone 3).zr.state, (t.zone 3).zr.setpoint, (t.slot 2).useCount)) = some (.running, -200, 1) := by
  decide +kernel
theorem test_start_not_ready :
    reply (.zoneStart 1 [3, 2, 0, 0, 0]) (slotAs 2 .sealed [mk 0x14 0 4 0, mk 0x40 0 0 0] State.reset)
      = some [0x1A, 0xFF] := by decide +kernel
theorem test_abort :
    (served (.zoneAbort 1 [11]) (zoneAs 11 .running State.reset)).map (fun t => (t.zone 11).zr.state)
      = some .idle := by decide +kernel
theorem test_pause_keeping :
    (served (.zonePause 1 [4]) (zoneAs 4 .keeping State.reset)).map
      (fun t => ((t.zone 4).zr.state, (t.zone 4).zr.causes.host, (t.zone 4).zr.target))
      = some (.held, true, .keeping) := by decide +kernel
/-- A zone held for HOST and LINK. -/
def heldTwice : State :=
  withZone 4 (fun x => { x with zr := { x.zr with state := .held, causes := ⟨true, false, false, false, true, false⟩ } })
    State.reset
/-- R63: one of two causes is removed, and the other remains (R202: LINK is bit 4). -/
theorem test_resume_partly : reply (.zoneResume 1 [4, 1]) heldTwice = some [0, 0x10] := by decide +kernel
theorem test_resume_leaves :
    (served (.zoneResume 1 [4, 0x3F]) heldTwice).map (fun t => (t.zone 4).zr.state) = some .running := by
  decide +kernel
theorem test_step_refused_for_link : reply (.zoneStep 1 [4, 1]) heldTwice = some [0x13, 3] := by decide +kernel
theorem test_skip_refused_idle : reply (.zoneSkip 1 [0]) State.reset = some [0x13, 0] := by decide +kernel
theorem test_zone_trip :
    (served (.zoneTrip 1 [0]) (zoneAs 0 .running State.reset)).map
      (fun t => ((t.zone 0).trip.map TripRec.cause, (t.zone 0).exc)) = some (some .hostZone, ⟨0, 0⟩) := by
  decide +kernel
/-- A zone tripped by ZONE_TRIP out of RUNNING. -/
def trippedZone : State :=
  withZone 0 (fun x => { x with
    zr := { x.zr with state := .tripped }
    trip := some { cause := .hostZone, guard := none, place := none, before := .running, repeats := 2 } }) State.reset
theorem test_clear_trip :
    (served (.zoneClearTrip 1 [0]) trippedZone).map (fun t => ((t.zone 0).zr.state, (t.zone 0).trip))
      = some (.idle, none) := by decide +kernel
theorem test_status_length : (reply (.zoneStatus 1 [7]) State.reset).map List.length = some 33 := by decide +kernel
/-- R162: carrying kp alone writes kp alone, and into the staged copy. -/
theorem test_set_param :
    (served (.zoneSetParam 1 ([3, 0, 2, 0, 0, 0x0F, 0xFF] ++ List.replicate 33 0xFF)) State.reset).map
      (fun t => ((t.zone 3).staged, (t.zone 3).live)) = some ({ Params.default with kp := 4095 }, Params.default) := by
  decide +kernel
theorem test_get_param : (reply (.zoneGetParam 1 [3, 0]) State.reset).map (List.take 11)
    = some [0, 3, 0, 0, 3, 0, 0, 64, 0, 4, 0] := by decide +kernel
theorem test_commit :
    (served (.zoneCommit 1 [3]) State.reset).map (fun t => ((t.zone 3).pending, (t.zone 3).restricted))
      = some (true, false) := by decide +kernel
theorem test_discard :
    (served (.zoneDiscard 1 [3]) (withZone 3 (fun x => { x with pending := true }) State.reset)).map
      (fun t => (t.zone 3).pending) = some false := by decide +kernel

/-! ## Sensors and scan -/

theorem test_sensor_set :
    (served (.sensorSet 1 [5, 1, 0, 0xFF, 0xFF, 0, 0, 0, 0, 0, 0, 0, 0]) State.reset).map
      (fun t => (t.sensor 5).gain) = some (-1) := by decide +kernel
theorem test_sensor_read : (reply (.sensorRead 1 [5]) State.reset).map List.length = some 25 := by decide +kernel
theorem test_scan_set :
    (served (.scanSet 1 [1, 3]) State.reset).map (fun t => (t.scan.live, t.scan.converting, (t.sensor 3).status))
      = some ([3], some 0, .waiting) := by decide +kernel
theorem test_scan_get : reply (.scanGet 1 []) State.reset = some [0, 0, 0, 0, 0] := by decide +kernel
/-- Sensor 5 of the worked example in 05_sensor_acquisition.md before completion 1. -/
def example05 : State :=
  { State.reset.setSensor 5 { Sensor.reset with
      gain := 2560, offset := -500, shift := 2, openAt := some 4000, shortAt := some 20, status := .valid,
      seeded := true, filtered := 2000, valids := 15 } with
    scan := { live := [5], pending := none, converting := some 0 } }
/-- Completion 1: code 1008 gives 2020, filtered 2005. -/
theorem test_completion_valid :
    (after (.conversionCompletion 1008 []) example05).map
      (fun t => ((t.sensor 5).lastScaled, (t.sensor 5).filtered, (t.sensor 5).valids)) = some (some 2020, 2005, 15) := by
  decide +kernel
/-- Completion 2: code 4095 is OPEN, and the sensor becomes SUSPECT. -/
theorem test_completion_open :
    (after (.conversionCompletion 4095 []) example05).map
      (fun t => ((t.sensor 5).status, (t.sensor 5).filtered, (t.sensor 5).invalids)) = some (.suspect, 2000, 1) := by
  decide +kernel

/-! ## Segments, control law, governor and modulator: the worked examples -/

/-- Zone 6 of 02_segment_semantics.md, a ramp held back. -/
def env02 (pv : Int) : RunEnv :=
  { zone := 6
    prog := [mk 0x14 0 8 0, mk 0x0E 400 40 15, mk 0x14 0 20 0, mk 0x40 0 0 0]
    live := { Params.default with feedback := some 6 }
    usable := true
    pv := pv
    worth := 4 }
/-- That zone as B4 leaves it: elapsed 12, setpoint 260, held back. -/
def atB4 : ZoneRec :=
  { ZoneRec.reset with
    state := .running, active := some 1, seg := 1, entered := true, elapsed := 12, origin := 200, setpoint := 260,
    runMark := true, holdBack := true }
/-- B5: PV 250, charged to 16, setpoint 280. -/
theorem test_ramp_b5 :
    (((env02 250).executorStage atB4).zr.elapsed, ((env02 250).executorStage atB4).zr.setpoint,
      ((env02 250).executorStage atB4).zr.holdBack) = (16, 280, false) := by decide +kernel
/-- B4's row: PV 241 against 260 is not charged. -/
theorem test_ramp_b4 :
    (((env02 241).executorStage { atB4 with holdBack := false }).zr.elapsed,
      ((env02 241).executorStage { atB4 with holdBack := false }).zr.holdBack) = (12, true) := by decide +kernel
/-- B1 of 04_control_law.md: demand 800, accumulator 0. -/
theorem test_control_b1 :
    closedDemand { Params.default with ceiling := 1200, slew := some 800 } Control.reset 1500 250
      = { demand := 800, acc := 0, kind := .closedLoop } := by decide +kernel
/-- Leaving a DRIVE: demand 2010, accumulator 512,040. -/
theorem test_control_preset :
    closedDemand Params.default { Control.reset with acc := 90000, lastGrant := 2000, lastRegime := .openLoop } 700 690
      = { demand := 2010, acc := 512040, kind := .closedLoop } := by decide +kernel
/-- 08_budget_governor.md, round 1: zone 1 after zone 2 is granted 3144 and draws 5264. -/
theorem test_grant :
    grantOf true { Params.default with weight := 2, reserve := 512 } 5264 4096 = (3144, 5264) := by decide
/-- 07_modulation_engine.md: duty 1000 has 63 ticks at even positions; with phase 200 tick 6 is active, tick 7 not. -/
theorem test_dither :
    (loadFrame 1000 200).tickCount = 63 ∧ (loadFrame 1000 200).activeAt 6 = true
      ∧ (loadFrame 1000 200).activeAt 7 = false ∧ (loadFrame 1000 200).activeAt 200 = true
      ∧ (loadFrame 1000 200).activeAt 199 = false := by decide
/-- R130: tick 255 follows tick 254, and no tick starts before the first cycle or after tick 255. -/
theorem test_tick :
    (after .tick { State.reset with modulator := ⟨0, 254, false⟩ }).map
      (fun t => (t.modulator.tick, (t.zone 0).pin)) = some (255, false) := by decide +kernel
theorem test_tick_at_cycle_end :
    after .tick State.reset = some State.reset.wake
    ∧ (after .tick { State.reset with modulator := ⟨0, 255, false⟩ }).map (·.modulator) = some ⟨0, 255, false⟩ := by
  decide +kernel
/-- R131: the first cycle start after a hard reset leaves the counter at 0. -/
theorem test_first_cycle :
    (after (.cycleStart []) State.reset).map (fun t => (t.modulator.counter, (t.zone 0).frame.pos)) = some (0, 0) := by
  decide +kernel
/-- R131, R133: from counter 15 back to 0, and no boundary at counter 1. -/
theorem test_next_cycle :
    (after (.cycleStart []) { State.reset with modulator := ⟨0, 255, false⟩ }).map
      (fun t => (t.modulator.counter, (t.zone 0).frame.pos)) = some (1, 1) := by decide +kernel

/-- R130: no cycle starts within a cycle. -/
theorem test_cycle_within :
    (after (.cycleStart []) { State.reset with modulator := ⟨3, 254, false⟩ }).map (·.modulator)
      = some ⟨3, 254, false⟩ := by decide +kernel

/-- Zones 0 and 1 in a DRIVE of demand 2000, as it stands after its entry. -/
def twoDrives : State :=
  let driving (x : Zone) : Zone :=
    { x with zr := { x.zr with state := .running, active := some 2, entered := true, runMark := true } }
  withZone 1 driving (withZone 0 driving (slotAs 2 .sealed driveProgram State.reset))
/-- R62: the silence timer expires between the boundaries of zones 0 and 1. Zone 0's run update comes first and loads
its DRIVE's demand; zone 1 is held first, and its boundary is a held one with its fallback of 0. -/
theorem test_expiry_between_boundaries :
    (after (.cycleStart ([.start, .boundary 0, .expiry] ++ linkExpiry.drop 1 ++ plainCycle.drop 2)) twoDrives).map
      (fun t => ((t.zone 0).zr.state, (t.zone 0).frame.duty, (t.zone 1).zr.state, (t.zone 1).frame.duty,
        t.link.connected)) = some (.held, 2000, .held, 0, false) := by decide +kernel

/-! ## STOP input, timers and resets -/

/-- 06_guards_trips_and_the_stop_input.md, sample 6: the third low sample asserts and trips zone 0. -/
theorem test_stop_asserts :
    (after (.stopSample false) { zoneAs 0 .running State.reset with stop := ⟨false, 2, 0⟩ }).map
      (fun t => (t.stop, (t.zone 0).zr.state)) = some (⟨true, 0, 0⟩, .tripped) := by decide +kernel
/-- Sample 3 of the same example: a high sample breaks the low run. -/
theorem test_stop_bounce :
    (after (.stopSample true) { State.reset with stop := ⟨false, 2, 0⟩ }).map (·.stop) = some ⟨false, 0, 0⟩ := by
  decide +kernel
theorem test_silence :
    (after (.silenceTimerExpiry []) (zoneAs 2 .running State.reset)).map
      (fun t => (t.link.connected, (t.zone 2).zr.causes.link)) = some (false, true) := by decide +kernel
theorem test_go_back :
    (after .goBack { State.reset with link := { State.reset.link with
      tx := .report ⟨9, 0x84, []⟩ false, reports := [⟨8, .linkRestored, .sent⟩, ⟨9, .linkRestored, .fresh⟩],
      resend := some 5 } }).map (fun t => t.link.reports.map Queued.st) = some [.due, .fresh] := by decide +kernel
theorem test_frame_sent_reply :
    (after .frameSent { State.reset with link := { State.reset.link with
      tx := .reply ⟨1, 1, []⟩, replies := [⟨1, 1, []⟩], reports := [] } }).map
      (fun t => (t.link.replies, t.link.tx)) = some ([], .idle) := by decide +kernel
/-- R183, R194, R196: a hard reset leaves the transmitter IDLE with STARTED queued; whatever comes next finds it chosen,
and the first FRAME_SENT ends it. -/
theorem test_started_is_sent :
    (after .frameSent State.reset).map (fun t => (t.link.reports, t.link.tx)) = some ([], .idle)
    ∧ (after (.receivedByte 0) State.reset).map (fun t => (t.link.tx, t.link.runCount))
      = some (.report ⟨0, 0x81, [1]⟩ false, 0)
    ∧ (after (.goodFrame 9 1 []) State.reset).bind (fun t => (after (.ping 9 []) t).map (fun u => (u.link.tx, u.link.replies)))
      = some (.report ⟨0, 0x81, [1]⟩ false, [⟨9, 1, [0]⟩])
    ∧ step State.reset = .next State.reset.wake := by
  refine ⟨by decide +kernel, by decide +kernel, by decide +kernel, rfl⟩
/-- R173: the levels of TXD for SYNC, 0xC3, least significant bit first between start and stop bit; nothing is on the
line of an IDLE transmitter. -/
theorem test_txd :
    (after .tick State.reset).map (fun t => (t.link.txd.take 10, t.link.txd.length))
      = some ([false, true, true, false, false, false, false, true, true, true], 70)
    ∧ State.reset.link.txd = [] := by decide +kernel
theorem test_overrun :
    (after (.goodFrame 1 1 []) { State.reset with link := { State.reset.link with
      rxQueue := List.replicate 4 ⟨0, 1, []⟩ } }).map (fun t => (t.link.rxQueue.length, t.link.reports.length))
      = some (4, 2) := by decide +kernel
theorem test_soft_reset_only_after_restart : after .softReset State.reset = some State.reset.wake := by decide +kernel
theorem test_hard_reset :
    (after (.hardReset .resetPin true false) (zoneAs 0 .running State.reset)).map
      (fun t => (t.link.rate, t.link.reports, (t.zone 0).zr.state))
      = some (.baud460800, [⟨0, .started .resetPin, .fresh⟩], .idle) := by decide +kernel
theorem test_retry_repeats :
    ((served (.ping 9 [1]) State.reset).bind (served (.retry 9 1 [1]))).map
      (fun t => t.link.replies.map WireFrame.kind) = some [1, 0x41] := by decide +kernel

/-! ## Witnesses: states and operands that meet the hypotheses of each statement, clause by clause -/

/-- The device record with some fields changed. -/
def withDevice (f : Device → Device) (s : State) : State := { s with device := f s.device }

/-- The link with some fields changed. -/
def withLink (f : Link → Link) (s : State) : State := { s with link := f s.link }

/-- Zone 0's live and staged records changed. -/
def withParams (live staged : Params) (s : State) : State :=
  withZone 0 (fun x => { x with live := live, staged := staged }) s

/-- A record with sensor 15 as feedback. -/
def onSensor15 : Params := { Params.default with feedback := some 15 }

/-- A record with one guard entry, on sensor 7. -/
def guarded7 : Params := { Params.default with guards := [⟨7, 100, none, 1⟩] }

/-- Zone 0 held for HOST, and for SENSOR or not. -/
def heldFor (sensor : Bool) (s : State) : State :=
  withZone 0 (fun x => { x with zr := { x.zr with state := .held, causes := ⟨true, false, false, sensor, false, false⟩ } }) s

theorem witness_StepAlwaysAnswers : State.reset.pending = [] := rfl
theorem witness_WaitingFrameChangesNothing :
    requestFrame (.ping 0 []) = some ⟨0, 1, []⟩ ∧ State.reset.canTake ⟨0, 1, []⟩ = false := by decide +kernel
/-- A state that remembers a frame, which waits again. -/
def remembered (f : WireFrame) : State :=
  queued f (withLink (fun l => { l with retry := some ⟨f.seq, f.crc, replyFrame f [0]⟩ }) State.reset)
/-- For RETRY with a request kind, RETRY with another kind, and a request row. -/
theorem witness_RetryIsAnsweredByTheRepeat :
    (remembered ⟨9, 1, [1]⟩).canTake ⟨9, 1, [1]⟩ = true
    ∧ requestFrame (.retry 9 1 [1]) = some ⟨9, 1, [1]⟩ ∧ requestFrame (.ping 9 [1]) = some ⟨9, 1, [1]⟩
    ∧ (remembered ⟨9, 1, [1]⟩).link.retry = some ⟨9, (⟨9, 1, [1]⟩ : WireFrame).crc, ⟨9, 1, [0]⟩⟩
    ∧ (remembered ⟨9, 0x20, []⟩).canTake ⟨9, 0x20, []⟩ = true
    ∧ requestFrame (.retry 9 0x20 []) = some ⟨9, 0x20, []⟩ := by decide +kernel

theorem witness_FormatAndNumbersAreCheckedFirst :
    (∃ s : State, Executes s ⟨1, 0, []⟩)
    ∧ (∃ s : State, Executes s ⟨1, 0x20, []⟩ ∧ 0x1F < (0x20 : Byte).toNat)
    ∧ (∃ s : State, Executes s ⟨1, 2, [0]⟩ ∧ requestFrame (.identify 1 [0]) = some ⟨1, 2, [0]⟩ ∧ lengthAllowed
      (.identify 1 [0]) = false)
    ∧ (∃ s : State, Executes s ⟨1, 0x10, [12]⟩ ∧ requestFrame (.zoneAbort 1 [12]) = some ⟨1, 0x10, [12]⟩
      ∧ lengthAllowed (.zoneAbort 1 [12]) = true ∧ numberRefused (.zoneAbort 1 [12]) = some 1)
    ∧ (∃ s : State, Executes s ⟨1, 0x0B, [16]⟩ ∧ requestFrame (.progSeal 1 [16]) = some ⟨1, 0x0B, [16]⟩
      ∧ lengthAllowed (.progSeal 1 [16]) = true ∧ numberRefused (.progSeal 1 [16]) = some 2)
    ∧ (∃ s : State, Executes s ⟨1, 0x1D, [16]⟩ ∧ requestFrame (.sensorRead 1 [16]) = some ⟨1, 0x1D, [16]⟩
      ∧ lengthAllowed (.sensorRead 1 [16]) = true ∧ numberRefused (.sensorRead 1 [16]) = some 6) :=
  ⟨⟨queued ⟨1, 0, []⟩ (State.reset), by decide +kernel, by decide +kernel⟩,
    ⟨queued ⟨1, 0x20, []⟩ (State.reset), ⟨by decide +kernel, by decide +kernel⟩, by decide +kernel⟩,
    ⟨queued ⟨1, 2, [0]⟩ (State.reset), ⟨by decide +kernel, by decide +kernel⟩, by decide +kernel⟩,
    ⟨queued ⟨1, 0x10, [12]⟩ (State.reset), ⟨by decide +kernel, by decide +kernel⟩, by decide +kernel⟩,
    ⟨queued ⟨1, 0x0B, [16]⟩ (State.reset), ⟨by decide +kernel, by decide +kernel⟩, by decide +kernel⟩,
    ⟨queued ⟨1, 0x1D, [16]⟩ (State.reset), ⟨by decide +kernel, by decide +kernel⟩, by decide +kernel⟩⟩

theorem witness_PingAndIdentifyOnlyAnswer :
    (∃ s : State, Executes s ⟨1, 1, List.replicate 119 0⟩ ∧ (List.replicate 119 (0 : Byte)).length ≤ 119)
    ∧ (∃ s : State, Executes s ⟨1, 2, []⟩) :=
  ⟨⟨queued ⟨1, 1, List.replicate 119 0⟩ (State.reset), ⟨by decide +kernel, by decide +kernel⟩, by decide +kernel⟩,
    ⟨queued ⟨1, 2, []⟩ (State.reset), by decide +kernel, by decide +kernel⟩⟩

/-- A part that awaits its reset, the RESTART reply in transmission. -/
def awaiting : State :=
  withLink (fun l => { l with tx := .reply ⟨1, 3, [0]⟩, replies := [⟨1, 3, [0]⟩], awaitsReset := true }) State.reset
theorem witness_RestartAwaitsItsReset :
    (∃ s : State, Executes s ⟨1, 3, []⟩) ∧ awaiting.link.awaitsReset = true
    ∧ (∃ t, exec .tick awaiting = .next t) ∧ (∃ t, exec .frameSent awaiting = .next t) :=
  ⟨⟨queued ⟨1, 3, []⟩ State.reset, by decide +kernel, by decide +kernel⟩, rfl, ⟨_, rfl⟩, ⟨_, rfl⟩⟩

theorem witness_AllStopTripsEveryActiveZone :
    (∃ s : State, Executes s ⟨1, 4, []⟩ ∧ (s.zone 0).zr.state = .running) :=
  ⟨queued ⟨1, 4, []⟩ (zoneAs 0 .running State.reset), ⟨by decide +kernel, by decide +kernel⟩, by decide +kernel⟩

/-- Two reports sent and one new, with acknowledgement on or off. -/
def window (ack : Bool) : State :=
  withDevice (fun d => { d with live := { d.live with ack := ack } })
    (withLink (fun l => { l with
      reports := [⟨0, .linkRestored, .sent⟩, ⟨1, .linkRestored, .due⟩, ⟨2, .linkRestored, .fresh⟩]
      resend := some 5 }) State.reset)

theorem witness_AckReportsRemovesTheAcknowledged :
    (∃ s : State, Executes s ⟨9, 5, [1]⟩ ∧ s.device.live.ack = true ∧ s.link.reports = [⟨0, .linkRestored,
      .sent⟩] ++ ⟨1, .linkRestored, .due⟩ :: [⟨2, .linkRestored, .fresh⟩])
    ∧ (∃ s : State, Executes s ⟨9, 5, [1]⟩ ∧ s.device.live.ack = false)
    ∧ (∃ s : State, Executes s ⟨9, 5, [2]⟩ ∧ ∀ x ∈ s.link.reports, ¬(x.seq = 2 ∧ x.st ≠ .fresh)) :=
  ⟨⟨queued ⟨9, 5, [1]⟩ (window true), ⟨by decide +kernel, by decide +kernel⟩, by decide +kernel⟩,
    ⟨queued ⟨9, 5, [1]⟩ (window false), ⟨by decide +kernel, by decide +kernel⟩, by decide +kernel⟩,
    ⟨queued ⟨9, 5, [2]⟩ (window true), ⟨by decide +kernel, by decide +kernel⟩, by decide +kernel⟩⟩

theorem witness_DeviceSetAndDeviceGet :
    (∃ s : State, Executes s ⟨1, 6, [0x20, 0, 0, 0, 0, 0, 0, 20]⟩ ∧ s.device.pending = true)
    ∧ (∃ s : State, Executes s ⟨1, 6, [0x20, 0, 0, 0, 0, 0, 0, 21]⟩ ∧ s.device.pending = false ∧ FirstOutOfRange
      (deviceFields [0x20, 0, 0, 0, 0, 0, 0, 21]) 27)
    ∧ (∃ s : State, Executes s ⟨1, 6, [0x20, 0, 0, 0, 0, 0, 0, 20]⟩ ∧ s.device.pending = false ∧ AllInRange
      (deviceFields [0x20, 0, 0, 0, 0, 0, 0, 20]))
    ∧ (∃ s : State, Executes s ⟨1, 7, [2]⟩ ∧ 1 < (2 : Byte).toNat)
    ∧ (∃ s : State, Executes s ⟨1, 7, [flagByte true]⟩)
    ∧ (∃ s : State, Executes s ⟨1, 7, [flagByte false]⟩) :=
  ⟨⟨queued ⟨1, 6, [0x20, 0, 0, 0, 0, 0, 0, 20]⟩ (withDevice (fun d => { d with pending := true }) State.reset),
    ⟨by decide +kernel, by decide +kernel⟩, by decide +kernel⟩,
    ⟨queued ⟨1, 6, [0x20, 0, 0, 0, 0, 0, 0, 21]⟩ (State.reset), ⟨by decide +kernel, by decide +kernel⟩,
      by decide +kernel, (deviceFault_agrees _).2 _ |>.2 ⟨.resend, by decide +kernel, rfl⟩⟩,
    ⟨queued ⟨1, 6, [0x20, 0, 0, 0, 0, 0, 0, 20]⟩ (State.reset), ⟨by decide +kernel, by decide +kernel⟩,
      by decide +kernel, (deviceFault_agrees _).1.1 (by decide +kernel)⟩,
    ⟨queued ⟨1, 7, [2]⟩ (State.reset), ⟨by decide +kernel, by decide +kernel⟩, by decide +kernel⟩,
    ⟨queued ⟨1, 7, [flagByte true]⟩ (State.reset), by decide +kernel, by decide +kernel⟩,
    ⟨queued ⟨1, 7, [flagByte false]⟩ (State.reset), by decide +kernel, by decide +kernel⟩⟩

theorem witness_DeviceCommitIsJudgedInOrder :
    (∃ s : State, Executes s ⟨1, 8, []⟩ ∧ s.device.pending = true)
    ∧ (∃ s : State, Executes s ⟨1, 8, []⟩ ∧ s.device.pending = false ∧ s.device.staged.cycle ≠ s.device.live.cycle
      ∧ ¬(∀ z, (s.zone z).zr.state = .idle))
    ∧ (∃ s : State, Executes s ⟨1, 8, []⟩ ∧ s.device.pending = false
      ∧ s.device.staged.governor ≠ s.device.live.governor ∧ (∀ z, (s.zone z).zr.state = .idle)
      ∧ ¬s.countedReserves ≤ s.device.staged.budget * 4096)
    ∧ (∃ s : State, Executes s ⟨1, 8, []⟩ ∧ s.device.pending = false
      ∧ s.device.staged.governor ≠ s.device.live.governor ∧ (∀ z, (s.zone z).zr.state = .idle)
      ∧ s.countedReserves ≤ s.device.staged.budget * 4096)
    ∧ (∃ s : State, Executes s ⟨1, 8, []⟩ ∧ s.device.pending = false ∧ s.device.staged = s.device.live) :=
  ⟨⟨queued ⟨1, 8, []⟩ (withDevice (fun d => { d with pending := true }) State.reset), ⟨by decide +kernel,
    by decide +kernel⟩, by decide +kernel⟩,
    ⟨queued ⟨1, 8, []⟩ (zoneAs 11 .tripped (withDevice
      (fun d => { d with staged := { d.staged with cycle := .ms2 } }) State.reset)), ⟨by decide +kernel,
      by decide +kernel⟩, by decide +kernel⟩,
    ⟨queued ⟨1, 8, []⟩ (withParams { Params.default with weight := 1, reserve := 1 } Params.default (withDevice
      (fun d => { d with staged := { d.staged with governor := true } }) State.reset)), ⟨by decide +kernel,
      by decide +kernel⟩, by decide +kernel⟩,
    ⟨queued ⟨1, 8, []⟩ (withDevice (fun d => { d with staged := { d.staged with governor := true } }) State.reset),
      ⟨by decide +kernel, by decide +kernel⟩, by decide +kernel⟩,
    ⟨queued ⟨1, 8, []⟩ (zoneAs 0 .running State.reset), ⟨by decide +kernel, by decide +kernel⟩, by decide +kernel⟩⟩

theorem witness_OpenAndDeleteEmptyTheSlot :
    (∃ s : State, Executes s ⟨1, 0x09, [byte 15]⟩ ∧ (s.slot 15).useCount = 0)
    ∧ (∃ s : State, Executes s ⟨1, 0x0C, [byte 15]⟩ ∧ (s.slot 15).useCount = 0)
    ∧ (∃ s : State, Executes s ⟨1, 0x09, [byte 15]⟩ ∧ 0 < (s.slot 15).useCount)
    ∧ (∃ s : State, Executes s ⟨1, 0x0C, [byte 15]⟩ ∧ 0 < (s.slot 15).useCount) :=
  ⟨⟨queued ⟨1, 0x09, [byte 15]⟩ (slotAs 15 .sealed driveProgram State.reset), ⟨by decide +kernel,
    by decide +kernel⟩, by decide +kernel⟩,
    ⟨queued ⟨1, 0x0C, [byte 15]⟩ (slotAs 15 .sealed driveProgram State.reset), ⟨by decide +kernel,
      by decide +kernel⟩, by decide +kernel⟩,
    ⟨queued ⟨1, 0x09, [byte 15]⟩ ((slotAs 15 .sealed driveProgram State.reset).useProgram 15), ⟨by decide +kernel,
      by decide +kernel⟩, by decide +kernel⟩,
    ⟨queued ⟨1, 0x0C, [byte 15]⟩ ((slotAs 15 .sealed driveProgram State.reset).useProgram 15), ⟨by decide +kernel,
      by decide +kernel⟩, by decide +kernel⟩⟩

theorem witness_AppendAddsTheCarriedSegments :
    (∃ s : State, Executes s ⟨1, 0x0A, byte 3 :: [mk 0x40 0 0 0].flatMap Seg.bytes⟩ ∧ (s.slot 3).state ≠ .opened)
    ∧ (∃ s : State, Executes s ⟨1, 0x0A, byte 3 :: [mk 0x40 0 0 0].flatMap Seg.bytes⟩ ∧ (s.slot 3).state = .opened
      ∧ ¬(1 ≤ s.store.free ∧ (s.slot 3).segs.length + 1 ≤ 255))
    ∧ (∃ s : State, Executes s ⟨1, 0x0A, byte 3 :: (List.replicate 8 (mk 0x40 0 0 0)).flatMap Seg.bytes⟩ ∧
      (s.slot 3).state = .opened ∧ ¬(8 ≤ s.store.free ∧ (s.slot 3).segs.length + 8 ≤ 255))
    ∧ (∃ s : State, Executes s ⟨1, 0x0A, byte 3 :: [mk 0x40 0 0 0].flatMap Seg.bytes⟩ ∧ (s.slot 3).state = .opened
      ∧ (1 ≤ s.store.free ∧ (s.slot 3).segs.length + 1 ≤ 255))
    ∧ (∃ s : State, Executes s ⟨1, 0x0A, byte 3 :: (List.replicate 8 (mk 0x40 0 0 0)).flatMap Seg.bytes⟩ ∧
      (s.slot 3).state = .opened ∧ (8 ≤ s.store.free ∧ (s.slot 3).segs.length + 8 ≤ 255)) :=
  ⟨⟨queued ⟨1, 0x0A, byte 3 :: [mk 0x40 0 0 0].flatMap Seg.bytes⟩ (State.reset), ⟨by decide +kernel,
    by decide +kernel⟩, by decide +kernel⟩,
    ⟨queued ⟨1, 0x0A, byte 3 :: [mk 0x40 0 0 0].flatMap Seg.bytes⟩ (slotAs 3 .opened (List.replicate 255
      (mk 0x30 0 0 0)) State.reset), ⟨by decide +kernel, by decide +kernel⟩, by decide +kernel⟩,
    ⟨queued ⟨1, 0x0A, byte 3 :: (List.replicate 8 (mk 0x40 0 0 0)).flatMap Seg.bytes⟩ (slotAs 3 .opened
      (List.replicate 248 (mk 0x30 0 0 0)) State.reset), ⟨by decide +kernel, by decide +kernel⟩, by decide +kernel⟩,
    ⟨queued ⟨1, 0x0A, byte 3 :: [mk 0x40 0 0 0].flatMap Seg.bytes⟩ (slotAs 3 .opened (List.replicate 254
      (mk 0x30 0 0 0)) State.reset), ⟨by decide +kernel, by decide +kernel⟩, by decide +kernel⟩,
    ⟨queued ⟨1, 0x0A, byte 3 :: (List.replicate 8 (mk 0x40 0 0 0)).flatMap Seg.bytes⟩ (slotAs 3 .opened
      (List.replicate 247 (mk 0x30 0 0 0)) State.reset), ⟨by decide +kernel, by decide +kernel⟩, by decide +kernel⟩⟩

theorem witness_SealRecordsItsOutcome :
    (∃ s : State, Executes s ⟨1, 0x0B, [byte 3]⟩ ∧ (s.slot 3).state ≠ .opened)
    ∧ (∃ s : State, Executes s ⟨1, 0x0B, [byte 3]⟩ ∧ (s.slot 3).state = .opened) :=
  ⟨⟨queued ⟨1, 0x0B, [byte 3]⟩ (State.reset), ⟨by decide +kernel, by decide +kernel⟩, by decide +kernel⟩,
    ⟨queued ⟨1, 0x0B, [byte 3]⟩ (slotAs 3 .opened (List.replicate 1 (mk 0x30 0 0 0)) State.reset),
      ⟨by decide +kernel, by decide +kernel⟩, by decide +kernel⟩⟩

/-- Every reason with its index (R10 to R12): the checks report it. -/
theorem witness_SealChecksTheProgram :
    sealCheck [] = some ⟨.emptyProgram, 0⟩
    ∧ sealCheck [mk 0x38 1 0 0, mk 0x24 4097 40 0] = some ⟨.fieldRange, 1⟩
    ∧ sealCheck [mk 0x38 1 0 0, mk 0x12 0 0 0] = some ⟨.missingField, 1⟩
    ∧ sealCheck [mk 0x40 0 0 0, mk 0x40 0 0 0] = some ⟨.endNotLast, 0⟩
    ∧ sealCheck [mk 0x38 1 0 0] = some ⟨.noEnd, 0⟩
    ∧ sealCheck (List.replicate 4 (mk 0x28 2 0 0)) = some ⟨.loopTooDeep, 3⟩
    ∧ sealCheck [mk 0x30 0 0 0] = some ⟨.againWithoutRepeat, 0⟩
    ∧ sealCheck [mk 0x28 2 0 0, mk 0x28 2 0 0, mk 0x40 0 0 0] = some ⟨.repeatUnclosed, 1⟩
    ∧ sealCheck [mk 0x28 2 0 0, mk 0x30 0 0 0] = some ⟨.emptyLoop, 1⟩ := by decide +kernel
/-- Both sides of the equivalence occur. -/
theorem witness_SealChecksTheProgram_both : sealCheck driveProgram = none ∧ sealCheck [] ≠ none := by decide +kernel

theorem witness_InfoAndReadOnlyAnswer :
    (∃ s : State, Executes s ⟨1, 0x0D, [byte 15]⟩)
    ∧ (∃ s : State, Executes s ⟨1, 0x0E, [byte 3, 0, 0]⟩)
    ∧ (∃ s : State, Executes s ⟨1, 0x0E, [byte 3, 0, 9]⟩ ∧ 8 < (9 : Byte).toNat)
    ∧ (∃ s : State, Executes s ⟨1, 0x0E, [byte 3, 1, 8]⟩ ∧ (s.slot 3).segs.length < (1 : Byte).toNat +
      (8 : Byte).toNat)
    ∧ (∃ s : State, Executes s ⟨1, 0x0E, [byte 3, 0, 8]⟩ ∧ (0 : Byte).toNat + (8 : Byte).toNat ≤
      (s.slot 3).segs.length)
    ∧ (∃ s : State, Executes s ⟨1, 0x0E, [byte 3, 7, 1]⟩ ∧ (7 : Byte).toNat + (1 : Byte).toNat ≤
      (s.slot 3).segs.length) :=
  ⟨⟨queued ⟨1, 0x0D, [byte 15]⟩ (State.reset), by decide +kernel, by decide +kernel⟩,
    ⟨queued ⟨1, 0x0E, [byte 3, 0, 0]⟩ (State.reset), by decide +kernel, by decide +kernel⟩,
    ⟨queued ⟨1, 0x0E, [byte 3, 0, 9]⟩ (State.reset), ⟨by decide +kernel, by decide +kernel⟩, by decide +kernel⟩,
    ⟨queued ⟨1, 0x0E, [byte 3, 1, 8]⟩ (slotAs 3 .opened (List.replicate 8 (mk 0x30 0 0 0)) State.reset),
      ⟨by decide +kernel, by decide +kernel⟩, by decide +kernel⟩,
    ⟨queued ⟨1, 0x0E, [byte 3, 0, 8]⟩ (slotAs 3 .opened (List.replicate 8 (mk 0x30 0 0 0)) State.reset),
      ⟨by decide +kernel, by decide +kernel⟩, by decide +kernel⟩,
    ⟨queued ⟨1, 0x0E, [byte 3, 7, 1]⟩ (slotAs 3 .opened (List.replicate 8 (mk 0x30 0 0 0)) State.reset),
      ⟨by decide +kernel, by decide +kernel⟩, by decide +kernel⟩⟩

theorem witness_StartSetsTheZoneUp :
    (∃ s : State, Executes s ⟨1, 0x0F, [byte 0, byte 2, 0, 0, 0]⟩ ∧ (s.zone 0).zr.state = .idle
      ∧ s.stop.asserted = false ∧ (s.slot 2).state = .sealed ∧ (s.zone 0).restricted = false ∧ FeedbackReady s 0 2
      ∧ (∀ g ∈ (s.zone 0).live.guards, Usable s g.sensor) ∧ (s.zone 0).live.feedback = none)
    ∧ (∃ s : State, Executes s ⟨1, 0x0F, [byte 0, byte 2, 1, 0, 0]⟩ ∧ (s.zone 0).zr.state = .idle
      ∧ s.stop.asserted = false ∧ (s.slot 2).state = .sealed ∧ (s.zone 0).restricted = false ∧ FeedbackReady s 0 2
      ∧ (∀ g ∈ (s.zone 0).live.guards, Usable s g.sensor) ∧ (1 : Byte).getLsbD 0 = true)
    ∧ (∃ s : State, Executes s ⟨1, 0x0F, [byte 0, byte 2, 0, 0, 0]⟩ ∧ (s.zone 0).zr.state = .idle
      ∧ s.stop.asserted = false ∧ (s.slot 2).state = .sealed ∧ (s.zone 0).restricted = false ∧ FeedbackReady s 0 2
      ∧ (∀ g ∈ (s.zone 0).live.guards, Usable s g.sensor) ∧ (s.zone 0).live.feedback = some 15) :=
  ⟨⟨queued ⟨1, 0x0F, [byte 0, byte 2, 0, 0, 0]⟩ (slotAs 2 .sealed driveProgram State.reset), ⟨by decide +kernel,
    by decide +kernel⟩, by unfold FeedbackReady NeedsFeedback Usable; decide +kernel⟩,
    ⟨queued ⟨1, 0x0F, [byte 0, byte 2, 1, 0, 0]⟩ (slotAs 2 .sealed driveProgram State.reset), ⟨by decide +kernel,
      by decide +kernel⟩, by unfold FeedbackReady NeedsFeedback Usable; decide +kernel⟩,
    ⟨queued ⟨1, 0x0F, [byte 0, byte 2, 0, 0, 0]⟩ (sensorAs 15 .suspect (withParams onSensor15 onSensor15
      (slotAs 2 .sealed [mk 0x14 0 4 0, mk 0x40 0 0 0] State.reset))), ⟨by decide +kernel, by decide +kernel⟩,
      by unfold FeedbackReady NeedsFeedback Usable; decide +kernel⟩⟩

theorem witness_StartIsRefusedInOrder :
    (∃ s : State, Executes s ⟨1, 0x0F, [byte 0, 16, 0, 0, 0]⟩ ∧ 15 < (16 : Byte).toNat)
    ∧ (∃ s : State, Executes s ⟨1, 0x0F, [byte 0, byte 2, 0, 0, 0]⟩ ∧ (s.zone 0).zr.state ≠ .idle)
    ∧ (∃ s : State, Executes s ⟨1, 0x0F, [byte 0, byte 2, 0, 0, 0]⟩ ∧ (s.zone 0).zr.state = .idle
      ∧ s.stop.asserted = true)
    ∧ (∃ s : State, Executes s ⟨1, 0x0F, [byte 0, byte 2, 0, 0, 0]⟩ ∧ (s.zone 0).zr.state = .idle
      ∧ s.stop.asserted = false ∧ (s.slot 2).state ≠ .sealed)
    ∧ (∃ s : State, Executes s ⟨1, 0x0F, [byte 0, byte 2, 0, 0, 0]⟩ ∧ (s.zone 0).zr.state = .idle
      ∧ s.stop.asserted = false ∧ (s.slot 2).state = .sealed ∧ (s.zone 0).restricted = true)
    ∧ (∃ s : State, Executes s ⟨1, 0x0F, [byte 0, byte 2, 0, 0, 0]⟩ ∧ (s.zone 0).zr.state = .idle
      ∧ s.stop.asserted = false ∧ (s.slot 2).state = .sealed ∧ (s.zone 0).restricted = false ∧ NeedsFeedback
      (s.slot 2).segs ∧ (s.zone 0).live.feedback = none)
    ∧ (∃ s : State, Executes s ⟨1, 0x0F, [byte 0, byte 2, 0, 0, 0]⟩ ∧ (s.zone 0).zr.state = .idle
      ∧ s.stop.asserted = false ∧ (s.slot 2).state = .sealed ∧ (s.zone 0).restricted = false ∧
      (s.zone 0).live.feedback = some 15 ∧ ¬Usable s 15)
    ∧ (∃ s : State, Executes s ⟨1, 0x0F, [byte 0, byte 2, 0, 0, 0]⟩ ∧ (s.zone 0).zr.state = .idle
      ∧ s.stop.asserted = false ∧ (s.slot 2).state = .sealed ∧ (s.zone 0).restricted = false ∧ FeedbackReady s 0 2
      ∧ (s.zone 0).live.guards = [] ++ ⟨7, 100, none, 1⟩ :: [] ∧ ¬Usable s 7) :=
  ⟨⟨queued ⟨1, 0x0F, [byte 0, 16, 0, 0, 0]⟩ (State.reset), ⟨by decide +kernel, by decide +kernel⟩, by decide +kernel⟩,
    ⟨queued ⟨1, 0x0F, [byte 0, byte 2, 0, 0, 0]⟩ (zoneAs 0 .tripped State.reset), ⟨by decide +kernel,
      by decide +kernel⟩, by decide +kernel⟩,
    ⟨queued ⟨1, 0x0F, [byte 0, byte 2, 0, 0, 0]⟩ ({ State.reset with stop := ⟨true, 0, 0⟩ }), ⟨by decide +kernel,
      by decide +kernel⟩, by decide +kernel⟩,
    ⟨queued ⟨1, 0x0F, [byte 0, byte 2, 0, 0, 0]⟩ (State.reset), ⟨by decide +kernel, by decide +kernel⟩,
      by decide +kernel⟩,
    ⟨queued ⟨1, 0x0F, [byte 0, byte 2, 0, 0, 0]⟩ (withZone 0 (fun x => { x with restricted := true })
      (slotAs 2 .sealed driveProgram State.reset)), ⟨by decide +kernel, by decide +kernel⟩, by decide +kernel⟩,
    ⟨queued ⟨1, 0x0F, [byte 0, byte 2, 0, 0, 0]⟩ (slotAs 2 .sealed [mk 0x14 0 4 0, mk 0x40 0 0 0] State.reset),
      ⟨by decide +kernel, by decide +kernel⟩, by unfold NeedsFeedback; decide +kernel⟩,
    ⟨queued ⟨1, 0x0F, [byte 0, byte 2, 0, 0, 0]⟩ (withParams onSensor15 onSensor15 (slotAs 2 .sealed [mk 0x14 0 4 0,
      mk 0x40 0 0 0] State.reset)), ⟨by decide +kernel, by decide +kernel⟩, by unfold Usable; decide +kernel⟩,
    ⟨queued ⟨1, 0x0F, [byte 0, byte 2, 0, 0, 0]⟩ (withParams guarded7 guarded7
      (slotAs 2 .sealed driveProgram State.reset)), ⟨by decide +kernel, by decide +kernel⟩,
      by unfold FeedbackReady NeedsFeedback Usable; decide +kernel⟩⟩

theorem witness_AbortEndsAnActiveZone :
    (∃ s : State, Executes s ⟨1, 0x10, [byte 0]⟩ ∧ (s.zone 0).zr.state = .idle)
    ∧ (∃ s : State, Executes s ⟨1, 0x10, [byte 0]⟩ ∧ (s.zone 0).zr.state = .tripped)
    ∧ (∃ s : State, Executes s ⟨1, 0x10, [byte 0]⟩ ∧ (s.zone 0).zr.state.isActive = true) :=
  ⟨⟨queued ⟨1, 0x10, [byte 0]⟩ (State.reset), ⟨by decide +kernel, by decide +kernel⟩, by decide +kernel⟩,
    ⟨queued ⟨1, 0x10, [byte 0]⟩ (zoneAs 0 .tripped State.reset), ⟨by decide +kernel, by decide +kernel⟩,
      by decide +kernel⟩,
    ⟨queued ⟨1, 0x10, [byte 0]⟩ (zoneAs 0 .keeping State.reset), ⟨by decide +kernel, by decide +kernel⟩,
      by decide +kernel⟩⟩

theorem witness_PauseHoldsTheZone :
    (∃ s : State, Executes s ⟨1, 0x11, [byte 0]⟩ ∧ (s.zone 0).zr.state.isActive = false)
    ∧ (∃ s : State, Executes s ⟨1, 0x11, [byte 0]⟩ ∧ (s.zone 0).zr.state ≠ .held ∧
      (s.zone 0).zr.state.isActive = true)
    ∧ (∃ s : State, Executes s ⟨1, 0x11, [byte 0]⟩ ∧ (s.zone 0).zr.state = .held) :=
  ⟨⟨queued ⟨1, 0x11, [byte 0]⟩ (State.reset), ⟨by decide +kernel, by decide +kernel⟩, by decide +kernel⟩,
    ⟨queued ⟨1, 0x11, [byte 0]⟩ (zoneAs 0 .stepping State.reset), ⟨by decide +kernel, by decide +kernel⟩,
      by decide +kernel⟩,
    ⟨queued ⟨1, 0x11, [byte 0]⟩ (zoneAs 0 .held State.reset), ⟨by decide +kernel, by decide +kernel⟩,
      by decide +kernel⟩⟩

theorem witness_ResumeRemovesTheNamedCauses :
    (∃ s : State, Executes s ⟨1, 0x12, [byte 0, 1]⟩ ∧ (s.zone 0).zr.state ≠ .held)
    ∧ (∃ s : State, Executes s ⟨1, 0x12, [byte 0, 1]⟩ ∧ (s.zone 0).zr.state = .held ∧
      (s.zone 0).zr.causes.isEmpty = false ∧ ¬∃ i, (s.zone 0).live.feedback = some i ∧ ¬Usable s i)
    ∧ (∃ s : State, Executes s ⟨1, 0x12, [byte 0, 9]⟩ ∧ (s.zone 0).zr.state = .held ∧
      (s.zone 0).zr.causes.isEmpty = false ∧ ∃ i, (s.zone 0).live.feedback = some i ∧ ¬Usable s i) :=
  ⟨⟨queued ⟨1, 0x12, [byte 0, 1]⟩ (State.reset), ⟨by decide +kernel, by decide +kernel⟩, by decide +kernel⟩,
    ⟨queued ⟨1, 0x12, [byte 0, 1]⟩ (heldFor false State.reset), ⟨by decide +kernel, by decide +kernel⟩,
      by unfold Usable; decide +kernel⟩,
    ⟨queued ⟨1, 0x12, [byte 0, 9]⟩ (heldFor true (withParams onSensor15 onSensor15 State.reset)),
      ⟨by decide +kernel, by decide +kernel⟩, by unfold Usable; decide +kernel⟩⟩

theorem witness_StepAndSkipActOnTheProgram :
    (∃ s : State, Executes s ⟨1, 0x13, [byte 0, 0]⟩)
    ∧ (∃ s : State, Executes s ⟨1, 0x13, [byte 0, 1]⟩ ∧ ¬((s.zone 0).zr.state = .held ∧
      (s.zone 0).zr.target = .running ∧ (s.zone 0).zr.causes.sensor = false ∧ (s.zone 0).zr.causes.link = false))
    ∧ (∃ s : State, Executes s ⟨1, 0x13, [byte 0, 255]⟩ ∧ ((s.zone 0).zr.state = .held ∧
      (s.zone 0).zr.target = .running ∧ (s.zone 0).zr.causes.sensor = false ∧ (s.zone 0).zr.causes.link = false))
    ∧ (∃ s : State, Executes s ⟨1, 0x14, [byte 0]⟩ ∧ (s.zone 0).zr.state = .running)
    ∧ (∃ s : State, Executes s ⟨1, 0x14, [byte 0]⟩ ∧ (s.zone 0).zr.state = .held ∧ (s.zone 0).zr.target = .running)
    ∧ (∃ s : State, Executes s ⟨1, 0x14, [byte 0]⟩ ∧ ¬((s.zone 0).zr.state = .running ∨
      (s.zone 0).zr.state = .stepping ∨ ((s.zone 0).zr.state = .held ∧ (s.zone 0).zr.target = .running))) :=
  ⟨⟨queued ⟨1, 0x13, [byte 0, 0]⟩ (State.reset), by decide +kernel, by decide +kernel⟩,
    ⟨queued ⟨1, 0x13, [byte 0, 1]⟩ (State.reset), ⟨by decide +kernel, by decide +kernel⟩, by decide +kernel⟩,
    ⟨queued ⟨1, 0x13, [byte 0, 255]⟩ (heldFor false State.reset), ⟨by decide +kernel, by decide +kernel⟩,
      by decide +kernel⟩,
    ⟨queued ⟨1, 0x14, [byte 0]⟩ (zoneAs 0 .running State.reset), ⟨by decide +kernel, by decide +kernel⟩,
      by decide +kernel⟩,
    ⟨queued ⟨1, 0x14, [byte 0]⟩ (heldFor false State.reset), ⟨by decide +kernel, by decide +kernel⟩,
      by decide +kernel⟩,
    ⟨queued ⟨1, 0x14, [byte 0]⟩ (State.reset), ⟨by decide +kernel, by decide +kernel⟩, by decide +kernel⟩⟩

theorem witness_ZoneTripEntersTripped :
    (∃ s : State, Executes s ⟨1, 0x15, [byte 0]⟩ ∧ (s.zone 0).zr.state.isActive = false)
    ∧ (∃ s : State, Executes s ⟨1, 0x15, [byte 0]⟩ ∧ (s.zone 0).zr.state.isActive = true) :=
  ⟨⟨queued ⟨1, 0x15, [byte 0]⟩ (State.reset), ⟨by decide +kernel, by decide +kernel⟩, by decide +kernel⟩,
    ⟨queued ⟨1, 0x15, [byte 0]⟩ (zoneAs 0 .held State.reset), ⟨by decide +kernel, by decide +kernel⟩,
      by decide +kernel⟩⟩

theorem witness_ClearTripReturnsTheRecord :
    (∃ s : State, Executes s ⟨1, 0x16, [byte 0]⟩ ∧ (s.zone 0).zr.state ≠ .tripped)
    ∧ (∃ s : State, Executes s ⟨1, 0x16, [byte 0]⟩ ∧ (s.zone 0).zr.state = .tripped ∧ s.stop.asserted = true)
    ∧ (∃ s : State, Executes s ⟨1, 0x16, [byte 0]⟩ ∧ (s.zone 0).zr.state = .tripped ∧ s.stop.asserted = false ∧
      (s.zone 0).live.guards = [] ++ ⟨7, 100, none, 1⟩ :: [] ∧ (s.sensor 7).status = .failed)
    ∧ (∃ s : State, Executes s ⟨1, 0x16, [byte 0]⟩ ∧ (s.zone 0).zr.state = .tripped ∧ s.stop.asserted = false ∧
      (∀ g ∈ (s.zone 0).live.guards, (s.sensor g.sensor).status ≠ .failed ∧
      (s.sensor g.sensor).lastScaled = some 100 ∧ g.high = 100 ∧ g.low = none) ∧ (s.zone 0).trip.isSome = true) :=
  ⟨⟨queued ⟨1, 0x16, [byte 0]⟩ (State.reset), ⟨by decide +kernel, by decide +kernel⟩, by decide +kernel⟩,
    ⟨queued ⟨1, 0x16, [byte 0]⟩ ({ trippedZone with stop := ⟨true, 0, 0⟩ }), ⟨by decide +kernel, by decide +kernel⟩,
      by decide +kernel⟩,
    ⟨queued ⟨1, 0x16, [byte 0]⟩ (sensorAs 7 .failed (withParams guarded7 guarded7 trippedZone)), ⟨by decide +kernel,
      by decide +kernel⟩, by decide +kernel⟩,
    ⟨queued ⟨1, 0x16, [byte 0]⟩ (withParams guarded7 guarded7
      (trippedZone.setSensor 7 { Sensor.reset with lastScaled := some 100 })), ⟨by decide +kernel,
      by decide +kernel⟩, by decide +kernel⟩⟩

theorem witness_StatusShowsTheZone :
    (∃ s : State, Executes s ⟨1, 0x17, [byte 11]⟩)
    ∧ (∃ s : State, Executes s ⟨1, 0x17, [byte 0]⟩ ∧ (s.zone 0).live.feedback = some 15) :=
  ⟨⟨queued ⟨1, 0x17, [byte 11]⟩ (State.reset), by decide +kernel, by decide +kernel⟩,
    ⟨queued ⟨1, 0x17, [byte 0]⟩ (withParams onSensor15 onSensor15 State.reset), ⟨by decide +kernel,
      by decide +kernel⟩, by decide +kernel⟩⟩

theorem witness_SetParamWritesTheCarriedFields :
    (∃ s : State, Executes s ⟨1, 0x18, byte 0 :: ([0, 2, 0, 0, 0, 0] ++ List.replicate 33 0)⟩ ∧ (byte 0 :: ([0, 2,
      0, 0, 0, 0] ++ List.replicate 33 0)).length = 40 ∧ (s.zone 0).pending = true)
    ∧ (∃ s : State, Executes s ⟨1, 0x18, byte 0 :: ([0, 2, 0, 0, 0x10, 0] ++ List.replicate 33 0)⟩ ∧
      (s.zone 0).pending = false ∧ FirstOutOfRange (paramFields (byte 0 :: ([0, 2, 0, 0, 0x10,
      0] ++ List.replicate 33 0))) 8)
    ∧ (∃ s : State, Executes s ⟨1, 0x18, byte 0 :: ([0, 2, 0, 0, 0x0F, 0xFF] ++ List.replicate 33 0)⟩ ∧
      (s.zone 0).pending = false ∧ AllInRange (paramFields (byte 0 :: ([0, 2, 0, 0, 0x0F,
      0xFF] ++ List.replicate 33 0)))) :=
  ⟨⟨queued ⟨1, 0x18, byte 0 :: ([0, 2, 0, 0, 0, 0] ++ List.replicate 33 0)⟩ (withZone 0
    (fun x => { x with pending := true }) State.reset), ⟨by decide +kernel, by decide +kernel⟩, by decide +kernel⟩,
    ⟨queued ⟨1, 0x18, byte 0 :: ([0, 2, 0, 0, 0x10, 0] ++ List.replicate 33 0)⟩ (State.reset), ⟨by decide +kernel,
      by decide +kernel⟩, by decide +kernel, (paramFault_agrees _).2 _ |>.2 ⟨.kp, by decide +kernel, rfl⟩⟩,
    ⟨queued ⟨1, 0x18, byte 0 :: ([0, 2, 0, 0, 0x0F, 0xFF] ++ List.replicate 33 0)⟩ (State.reset),
      ⟨by decide +kernel, by decide +kernel⟩, by decide +kernel, (paramFault_agrees _).1.1 (by decide +kernel)⟩⟩

theorem witness_GetParamAnswersAndDiscardCancels :
    (∃ s : State, Executes s ⟨1, 0x19, [byte 0, 2]⟩ ∧ 1 < (2 : Byte).toNat)
    ∧ (∃ s : State, Executes s ⟨1, 0x19, [byte 0, flagByte true]⟩)
    ∧ (∃ s : State, Executes s ⟨1, 0x19, [byte 0, flagByte false]⟩)
    ∧ (∃ s : State, Executes s ⟨1, 0x1B, [byte 0]⟩) :=
  ⟨⟨queued ⟨1, 0x19, [byte 0, 2]⟩ (State.reset), ⟨by decide +kernel, by decide +kernel⟩, by decide +kernel⟩,
    ⟨queued ⟨1, 0x19, [byte 0, flagByte true]⟩ (State.reset), by decide +kernel, by decide +kernel⟩,
    ⟨queued ⟨1, 0x19, [byte 0, flagByte false]⟩ (State.reset), by decide +kernel, by decide +kernel⟩,
    ⟨queued ⟨1, 0x1B, [byte 0]⟩ (State.reset), by decide +kernel, by decide +kernel⟩⟩

theorem witness_ParamFormRoundTrips :
    ParamsInRange { Params.default with
      feedback := some 15, kp := 4095, slew := some 1, guards := [⟨15, 32767, some (-32768), 15⟩, ⟨0, 0, none,
      1⟩] } := by
  unfold ParamsInRange InPu
  simp [Params.default]

theorem witness_ZoneCommitIsJudgedInOrder :
    (∃ s : State, Executes s ⟨1, 0x1A, [byte 0]⟩ ∧ (s.zone 0).pending = true)
    ∧ (∃ s : State, Executes s ⟨1, 0x1A, [byte 0]⟩ ∧ (s.zone 0).pending = false ∧ (s.zone 0).staged.ceiling <
      (s.zone 0).staged.floor)
    ∧ (∃ s : State, Executes s ⟨1, 0x1A, [byte 0]⟩ ∧ (s.zone 0).pending = false ∧ (s.zone 0).staged.floor ≤
      (s.zone 0).staged.ceiling ∧ (s.zone 0).staged.guards = [⟨3, 1, none, 1⟩, ⟨3, 2, none, 1⟩])
    ∧ (∃ s : State, Executes s ⟨1, 0x1A, [byte 0]⟩ ∧ (s.zone 0).pending = false ∧ (s.zone 0).staged.floor ≤
      (s.zone 0).staged.ceiling ∧ (s.zone 0).staged.guards = [] ∧ RestrictedDiffer (s.zone 0).staged
      (s.zone 0).live ∧ (s.zone 0).zr.state ≠ .idle)
    ∧ (∃ s : State, Executes s ⟨1, 0x1A, [byte 0]⟩ ∧ (s.zone 0).pending = false ∧ (s.zone 0).staged.floor ≤
      (s.zone 0).staged.ceiling ∧ (s.zone 0).staged.guards = [] ∧ (s.zone 0).zr.state = .idle ∧ ¬BudgetPending s
      ∧ ¬ReservesFit s 0)
    ∧ (∃ s : State, Executes s ⟨1, 0x1A, [byte 0]⟩ ∧ (s.zone 0).pending = false ∧ (s.zone 0).staged.floor ≤
      (s.zone 0).staged.ceiling ∧ (s.zone 0).staged.guards = [] ∧ RestrictedDiffer (s.zone 0).staged
      (s.zone 0).live ∧ (s.zone 0).zr.state = .idle ∧ ReservesFit s 0 ∧ PoolHasRoom s 0)
    ∧ (∃ s : State, Executes s ⟨1, 0x1A, [byte 0]⟩ ∧ (s.zone 0).pending = false ∧ (s.zone 0).staged.floor ≤
      (s.zone 0).staged.ceiling ∧ (s.zone 0).staged.guards = [] ∧ ¬RestrictedDiffer (s.zone 0).staged
      (s.zone 0).live ∧ ReservesFit s 0 ∧ PoolHasRoom s 0) :=
  ⟨⟨queued ⟨1, 0x1A, [byte 0]⟩ (withZone 0 (fun x => { x with pending := true }) State.reset), ⟨by decide +kernel,
    by decide +kernel⟩, by decide +kernel⟩,
    ⟨queued ⟨1, 0x1A, [byte 0]⟩ (withParams Params.default { Params.default with floor := 1, ceiling := 0 } State.reset), ⟨by decide +kernel, by decide +kernel⟩, by decide +kernel⟩,
    ⟨queued ⟨1, 0x1A, [byte 0]⟩ (withParams Params.default { Params.default with guards := [⟨3, 1, none, 1⟩, ⟨3, 2, none, 1⟩] } State.reset), ⟨by decide +kernel, by decide +kernel⟩, by decide +kernel⟩,
    ⟨queued ⟨1, 0x1A, [byte 0]⟩ (zoneAs 0 .tripped
      (withParams Params.default { Params.default with frameOffset := 15 } State.reset)), ⟨by decide +kernel,
      by decide +kernel⟩, by unfold RestrictedDiffer; decide +kernel⟩,
    ⟨queued ⟨1, 0x1A, [byte 0]⟩ (withParams Params.default { Params.default with weight := 1, reserve := 1 } State.reset), ⟨by decide +kernel, by decide +kernel⟩, by unfold ReservesFit BudgetPending; decide +kernel⟩,
    ⟨queued ⟨1, 0x1A, [byte 0]⟩ (withParams Params.default { Params.default with frameOffset := 15 } State.reset),
      ⟨by decide +kernel, by decide +kernel⟩,
      by unfold RestrictedDiffer ReservesFit PoolHasRoom BudgetPending; decide +kernel⟩,
    ⟨queued ⟨1, 0x1A, [byte 0]⟩ (zoneAs 0 .running State.reset), ⟨by decide +kernel, by decide +kernel⟩,
      by unfold RestrictedDiffer ReservesFit PoolHasRoom BudgetPending; decide +kernel⟩⟩

theorem witness_SensorSetWritesTheCarriedFields :
    (∃ s : State, Executes s ⟨1, 0x1C, byte 15 :: ([0x20, 0, 0, 0, 0, 0, 0, 0, 0, 0, 0] ++ [16])⟩ ∧ (byte 15 ::
      ([0x20, 0, 0, 0, 0, 0, 0, 0, 0, 0, 0] ++ [16])).length = 13 ∧ FirstOutOfRange (sensorFields (byte 15 ::
      ([0x20, 0, 0, 0, 0, 0, 0, 0, 0, 0, 0] ++ [16]))) 33)
    ∧ (∃ s : State, Executes s ⟨1, 0x1C, byte 15 :: ([0x20, 0, 0, 0, 0, 0, 0, 0, 0, 0, 0] ++ [15])⟩ ∧ AllInRange
      (sensorFields (byte 15 :: ([0x20, 0, 0, 0, 0, 0, 0, 0, 0, 0, 0] ++ [15])))) :=
  ⟨⟨queued ⟨1, 0x1C, byte 15 :: ([0x20, 0, 0, 0, 0, 0, 0, 0, 0, 0, 0] ++ [16])⟩ (State.reset), ⟨by decide +kernel,
    by decide +kernel⟩, by decide +kernel, (sensorFault_agrees _).2 _ |>.2 ⟨.fault, by decide +kernel, rfl⟩⟩,
    ⟨queued ⟨1, 0x1C, byte 15 :: ([0x20, 0, 0, 0, 0, 0, 0, 0, 0, 0, 0] ++ [15])⟩ (State.reset), ⟨by decide +kernel,
      by decide +kernel⟩, (sensorFault_agrees _).1.1 (by decide +kernel)⟩⟩

theorem witness_SensorReadAndScanGetOnlyAnswer :
    (∃ s : State, Executes s ⟨1, 0x1D, [byte 15]⟩)
    ∧ (∃ s : State, Executes s ⟨1, 0x1F, []⟩) :=
  ⟨⟨queued ⟨1, 0x1D, [byte 15]⟩ (State.reset), by decide +kernel, by decide +kernel⟩,
    ⟨queued ⟨1, 0x1F, []⟩ (State.reset), by decide +kernel, by decide +kernel⟩⟩

theorem witness_ScanSetIsRefusedPendingOrTaken :
    (∃ s : State, Executes s ⟨1, 0x1E, 25 :: List.replicate 25 0⟩ ∧ 24 < (25 : Byte).toNat ∧ (List.replicate 25
      (0 : Byte)).length = (25 : Byte).toNat)
    ∧ (∃ s : State, Executes s ⟨1, 0x1E, 2 :: [15, 16]⟩ ∧ ∃ b ∈ [(15 : Byte), 16], 15 < b.toNat)
    ∧ (∃ s : State, Executes s ⟨1, 0x1E, 1 :: [3]⟩ ∧ (∀ b ∈ [(3 : Byte)], b.toNat ≤ 15) ∧ InUse s 15 ∧ byte
      (15 : SensorId).val ∉ [(3 : Byte)] ∧ (∀ j : SensorId, j < 15 → ¬InUse s j))
    ∧ (∃ s : State, Executes s ⟨1, 0x1E, byte 24 :: (List.replicate 24 (15 : SensorId)).map (fun i => byte i.val)⟩
      ∧ (∀ i, ¬InUse s i) ∧ s.scan.converting ≠ none)
    ∧ (∃ s : State, Executes s ⟨1, 0x1E, byte 1 :: [(15 : SensorId)].map (fun i => byte i.val)⟩ ∧ (∀ i, ¬InUse s i)
      ∧ s.scan.converting = none) :=
  ⟨⟨queued ⟨1, 0x1E, 25 :: List.replicate 25 0⟩ (State.reset), ⟨by decide +kernel, by decide +kernel⟩,
    by decide +kernel⟩,
    ⟨queued ⟨1, 0x1E, 2 :: [15, 16]⟩ (State.reset), ⟨by decide +kernel, by decide +kernel⟩, by decide +kernel⟩,
    ⟨queued ⟨1, 0x1E, 1 :: [3]⟩ (zoneAs 0 .held (withParams onSensor15 onSensor15 State.reset)), ⟨by decide +kernel,
      by decide +kernel⟩, by unfold InUse; decide +kernel⟩,
    ⟨queued ⟨1, 0x1E, byte 24 :: (List.replicate 24 (15 : SensorId)).map (fun i => byte i.val)⟩
      ({ State.reset with scan := ⟨[3], none, some 0⟩ }), ⟨by decide +kernel, by decide +kernel⟩,
      by unfold InUse; decide +kernel⟩,
    ⟨queued ⟨1, 0x1E, byte 1 :: [(15 : SensorId)].map (fun i => byte i.val)⟩ (State.reset), ⟨by decide +kernel,
      by decide +kernel⟩, by unfold InUse; decide +kernel⟩⟩

/-- The last premise of the clause on an IDLE converter. -/
theorem witness_ScanConsistent : ScanConsistent State.reset := by unfold ScanConsistent; decide +kernel
theorem witness_BytesAreCollectedIntoFrames :
    State.reset.link.receiver = .hunting ∧ (0xC2#8 : Byte) ≠ 0xC3#8 ∧ 120 < (121#8 : Byte).toNat
    ∧ (withLink (fun l => { l with receiver := .collecting [] }) State.reset).link.receiver = .collecting []
    ∧ (⟨9, 1, [7]⟩ : WireFrame).body ++ [5, 6] = [] ++ 1 :: [9, 1, 7, 5, 6]
    ∧ (⟨9, 1, [7]⟩ : WireFrame).body ++ [5, 6] = [1, 9, 1, 7, 5] ++ 6 :: []
    ∧ (5 : Byte) ++ (6 : Byte) ≠ (⟨9, 1, [7]⟩ : WireFrame).crc
    ∧ (⟨9, 1, [7]⟩ : WireFrame).crc.extractLsb' 8 8 ++ (⟨9, 1, [7]⟩ : WireFrame).crc.extractLsb' 0 8
        = (⟨9, 1, [7]⟩ : WireFrame).crc := by decide +kernel
theorem witness_FrameBytesAreAGoodFrame :
    State.reset.link.receiver = .hunting ∧ (⟨9, 1, List.replicate 120 0⟩ : WireFrame).payload.length ≤ 120 := by
  decide +kernel
theorem witness_GoodFrameJoinsTheQueue :
    120 < (List.replicate 121 (0 : Byte)).length ∧ (List.replicate 120 (0 : Byte)).length ≤ 120
    ∧ (withLink (fun l => { l with rxQueue := List.replicate 3 ⟨0, 1, []⟩ }) State.reset).link.rxQueue.length < 4
    ∧ 4 ≤ (withLink (fun l => { l with rxQueue := List.replicate 4 ⟨0, 1, []⟩ }) State.reset).link.rxQueue.length := by
  decide +kernel
/-- A link whose second report is an unsent LINK_ERROR. -/
def unsentLink : Link :=
  { State.reset.link with
    reports := [⟨0, .started .powerOn, .fresh⟩, ⟨1, .linkError ⟨0, 0, 255, 0⟩, .fresh⟩] }
theorem witness_LostFramesRaiseTheLinkError :
    (withLink (fun l => { l with receiver := .collecting [1] }) State.reset).link.receiver = .collecting [1]
    ∧ State.reset.link.receiver = .hunting
    ∧ unsentLink.reports
        = [⟨0, .started .powerOn, .fresh⟩] ++ ⟨1, .linkError ⟨0, 0, 255, 0⟩, .fresh⟩ :: []
    ∧ (∀ x ∈ [(⟨0, .started .powerOn, .fresh⟩ : Queued)], ¬UnsentError unsentLink x)
    ∧ UnsentError unsentLink ⟨1, .linkError ⟨0, 0, 255, 0⟩, .fresh⟩
    ∧ (∀ q ∈ State.reset.link.reports, ¬UnsentError State.reset.link q) := by
  refine ⟨rfl, rfl, rfl, ?_, ⟨⟨_, rfl⟩, rfl, ?_⟩, ?_⟩
  · intro x hx h
    obtain ⟨⟨n, hn⟩, -, -⟩ := h
    rw [List.mem_singleton.1 hx] at hn
    cases hn
  · intro f w h
    cases h
  · intro x hx h
    obtain ⟨⟨n, hn⟩, -, -⟩ := h
    rw [List.mem_singleton.1 hx] at hn
    cases hn
/-- A link with a number of reports and a lost count. -/
def filled (n lost : Nat) : Link :=
  { State.reset.link with reports := List.replicate n ⟨0, .linkRestored, .fresh⟩, lost := lost }
/-- Each row of R184 and R185 at its boundary, for an ordinary and a priority report. -/
theorem witness_ReportsAreAdmittedByClass :
    Report.linkRestored.priority = false ∧ Report.stopReleased.priority = true
    ∧ ((filled 27 0).lost = 0 ∧ (filled 27 0).reports.length < 28) ∧ (28 ≤ (filled 28 0).reports.length)
    ∧ ((filled 31 0).reports.length < 32) ∧ (32 ≤ (filled 32 0).reports.length)
    ∧ (0 < (filled 26 1).lost ∧ (filled 26 1).reports.length + 1 < 28)
    ∧ (¬(filled 31 1).reports.length + 1 < 32 ∧ (filled 31 1).reports.length < 32)
    ∧ (¬(filled 27 1).reports.length + 1 < 28) ∧ (0 < (filled 32 1).lost ∧ 32 ≤ (filled 32 1).reports.length) := by
  decide +kernel
/-- A link with one reply and one report. -/
def busy (run : Nat) : Link := { State.reset.link with replies := [⟨1, 1, []⟩], runCount := run }
/-- The report of `busy` is the one on offer. -/
theorem offered_busy (run : Nat) : Offered (busy run) false ⟨0, .started .powerOn, .fresh⟩ := by
  unfold Offered
  simp [busy, State.reset, State.afterHardReset, Link.reset]
theorem witness_ArbiterChoosesTheNextFrame :
    (busy 2).replies = ⟨1, 1, []⟩ :: [] ∧ (busy 2).runCount < 3 ∧ 3 ≤ (busy 3).runCount
    ∧ Offered (busy 2) false ⟨0, .started .powerOn, .fresh⟩ ∧ Offered (busy 3) false ⟨0, .started .powerOn, .fresh⟩
    ∧ Offered { busy 0 with replies := [] } false ⟨0, .started .powerOn, .fresh⟩
    ∧ (∀ q, ¬Offered { busy 0 with reports := [] } false q)
    ∧ (∃ s c t, exec c s = .next t ∧ t.link.tx = .idle) := by
  refine ⟨rfl, by decide, by decide, offered_busy 2, offered_busy 3, offered_busy 0, ?_,
    State.reset, .hardReset .powerOn false false, _, rfl, rfl⟩
  intro q h
  simp [Offered] at h
/-- A transmitter that is IDLE and stays so, that sends a reply, that an expired resend timer has marked, and that a reset
has left IDLE with STARTED to send. -/
theorem witness_FrameSentServesTheQueues :
    (chosen (withLink (fun l => { l with reports := [] }) State.reset)).link.tx = .idle
    ∧ ¬SendsRestartReply (chosen (withLink (fun l => { l with reports := [] }) State.reset))
    ∧ ¬SendsRestartReply (chosen (withLink (fun l => { l with tx := .reply ⟨1, 1, []⟩ }) State.reset))
    ∧ ¬SendsRestartReply (chosen (withLink (fun l => { l with tx := .report ⟨0, 0x81, []⟩ true }) (window true)))
    ∧ (window true).device.live.ack = true ∧ State.reset.device.live.ack = false
    ∧ ¬SendsRestartReply (chosen State.reset) ∧ (chosen State.reset).link.tx = .report ⟨0, 0x81, [1]⟩ false := by
  refine ⟨by decide, ?_, ?_, ?_, rfl, rfl, ?_, by decide⟩
  all_goals
    rintro ⟨-, h, -⟩
    revert h
    decide
theorem witness_GoBackMarksTheWindow :
    State.reset.link.resend = none ∧ (window true).link.resend ≠ none
    ∧ 0 < (window true).link.reports.countP (fun q => decide (q.st ≠ .fresh))
    ∧ (withLink (fun l => { l with resend := some 5 }) State.reset).link.reports.countP
        (fun q => decide (q.st ≠ .fresh)) = 0 := by decide +kernel
theorem witness_SilenceHoldsTheZones :
    (withLink (fun l => { l with silence := none }) State.reset).link.silence = none
    ∧ allZones.Perm allZones ∧ State.reset.link.silence = some 20 := ⟨rfl, List.Perm.refl _, rfl⟩
theorem witness_SoftResetRestoresTheBlocks :
    ¬SendsRestartReply (chosen State.reset)
    ∧ SendsRestartReply (chosen (withLink (fun l => { l with
        tx := .reply ⟨1, 3, [0]⟩, replies := [⟨1, 3, [0]⟩], awaitsReset := true }) State.reset)) := by
  refine ⟨?_, ⟨⟨_, rfl⟩, rfl, by decide⟩⟩
  rintro ⟨-, h, -⟩
  revert h
  decide
/-- Zone 6 of the ramp example in its RAMP, with a skip request or not. -/
def ramping (elapsed : Nat) (skip : Bool) : ZoneRec := { atB4 with elapsed := elapsed, skip := skip }
/-- Charged inside the band at its edge, 15 pu, with the duration not reached, just reached, and with a skip request;
held back 16 pu away; and waiting, with a skip request. -/
theorem witness_TimedSegmentsAreCharged :
    Charged (env02 245) (ramping 12 false) (mk 0x0E 400 40 15) 40 16 false ∧ Updates (ramping 12 false)
    ∧ Charged (env02 245) (ramping 36 false) (mk 0x0E 400 40 15) 40 40 false
    ∧ Charged (env02 245) (ramping 12 true) (mk 0x0E 400 40 15) 40 16 false
    ∧ Charged (env02 244) (ramping 12 false) (mk 0x0E 400 40 15) 40 12 true
    ∧ (Updates { ramping 12 true with entered := false } ∧ ({ ramping 12 true with entered := false }).entered = false
      ∧ ∀ g, (env02 245).prog[(ramping 12 true).seg]? = some g → g.closedTimed = true →
      (env02 245).usable = true) := by
  refine ⟨?_, .inl rfl, ?_, ?_, ?_, .inl rfl, rfl, fun _ _ _ => rfl⟩
  all_goals
    refine ⟨rfl, .inl rfl, rfl, rfl, .inr rfl, ?_, ?_, ?_, ?_⟩
    · intro h; cases h
    · intro _ h; revert h; decide
    · intro _ _ band h
      revert h
      simp [mk, Seg.band?, env02, ramping, atB4]
      try (intro h; subst h; decide)
    · intro _ _ band h
      revert h
      simp [mk, Seg.band?, env02, ramping, atB4]
      try (intro h; subst h; decide)

/-- Zone 4 in a STEP with band 10 and duration 100, target 900. -/
def env04 (option : Bool) (pv : Int) : RunEnv :=
  { zone := 4, prog := [mk (if option then 0x1F else 0x1E) 900 100 10, mk 0x40 0 0 0]
    live := { Params.default with feedback := some 6 }, usable := true, pv := pv, worth := 4 }
/-- That zone in the STEP. -/
def settling (elapsed : Nat) (skip expired : Bool) : ZoneRec :=
  { ZoneRec.reset with
    state := .running, active := some 1, entered := true, elapsed := elapsed, setpoint := 900, runMark := true,
    skip := skip, expired := expired }
/-- The five outcomes and the stay, at the band's edge and at the duration. -/
theorem witness_SettleStepsEndByTheFirstTest :
    (∀ option, (env04 option 910).prog[0]? = some (mk (if option then 0x1F else 0x1E) 900 100 10))
    ∧ (∀ option, (mk (if option then 0x1F else 0x1E) 900 100 10).kind = some .step
        ∧ (mk (if option then 0x1F else 0x1E) 900 100 10).band? = some 10
        ∧ (mk (if option then 0x1F else 0x1E) 900 100 10).duration? = some 100
        ∧ (mk (if option then 0x1F else 0x1E) 900 100 10).option = option)
    ∧ (settling 96 true false).skip = true ∧ (settling 96 false true).expired = true
    ∧ |(env04 true 910).pv - (settling 96 false false).setpoint| ≤ (10 : Int)
    ∧ ¬|(env04 true 911).pv - (settling 96 false false).setpoint| ≤ (10 : Int)
    ∧ 100 ≤ (settling 96 false false).elapsed + (env04 true 911).worth
    ∧ ¬100 ≤ (settling 95 false false).elapsed + (env04 true 911).worth := by decide +kernel
theorem witness_ZeroTimeSegmentsAreExecuted :
    (mk 0x28 3 0 0).kind = some .rep ∧ (mk 0x30 0 0 0).kind = some .again
    ∧ ((mk 0x38 7 0 0).kind = some .mark ∧ (mk 0x38 7 0 0).option = false)
    ∧ ((mk 0x39 7 0 0).kind = some .mark ∧ (mk 0x39 7 0 0).option = true)
    ∧ (mk 0x40 0 0 0).kind = some .fin ∧ ((mk 0x18 900 0 0).kind = some .step ∧ (mk 0x18 900 0 0).band? = none)
    ∧ ((mk 0x1A 900 0 10).kind = some .step ∧ (mk 0x1A 900 0 10).band? ≠ none)
    ∧ (mk 0x0C 1 1 0).kind = some .ramp ∧ (mk 0x14 1 1 0).kind = some .soak ∧ (mk 0x24 1 1 0).kind = some .drive := by
  decide +kernel
/-- An environment with one program and a usable feedback sensor or none usable. -/
def envOf (prog : List Seg) (feedback : Option SensorId) (usable : Bool) : RunEnv :=
  { zone := 0, prog := prog, live := { Params.default with feedback := feedback }, usable := usable, pv := 0, worth := 4 }
/-- How a chain stopped and where. -/
def stopOf (e : RunEnv) : ChainStop × Nat := ((e.chain 16 0 .reset []).2.2, (e.chain 16 0 .reset []).1.seg)
/-- Each stop: entered at a SOAK, a RAMP and a DRIVE, the limit at the seventeenth zero-time segment, a MARK with
break, and an END of either kind. -/
theorem witness_TheChainsStopDecidesTheFrame :
    stopOf (envOf [mk 0x14 0 4 0] (some 1) false) = (.entered, 0)
    ∧ stopOf (envOf [mk 0x0C 9 4 0] (some 1) true) = (.entered, 0)
    ∧ stopOf (envOf [mk 0x24 9 4 0] none false) = (.entered, 0)
    ∧ stopOf (envOf (List.replicate 17 (mk 0x38 7 0 0)) none false) = (.limit, 16)
    ∧ stopOf (envOf [mk 0x39 7 0 0] none false) = (.broke, 1)
    ∧ stopOf (envOf [mk 0x40 0 0 0] none false) = (.finished false, 0)
    ∧ stopOf (envOf [mk 0x41 0 0 0] none false) = (.finished true, 0) := by decide +kernel
/-- A zone in each state that performs no run update, and a run update whose sensor is not usable. -/
theorem witness_BoundariesWithoutARunUpdate :
    (∀ st : ZoneState, ({ ZoneRec.reset with state := st } : ZoneRec).state = st)
    ∧ (envOf [] (some 1) true).usable = true ∧ (envOf [] (some 1) false).live.feedback ≠ none
    ∧ (envOf [] none false).live.feedback = none ∧ ZoneRec.reset.steps = 0
    ∧ Updates { ZoneRec.reset with state := .stepping, steps := 1 }
    ∧ (mk 0x14 0 4 0).closedTimed = true := ⟨fun _ => rfl, rfl, by decide, rfl, rfl, .inr ⟨rfl, by decide⟩, by decide⟩
theorem witness_ControlLawOfAFrame :
    (envOf [] (some 1) true).live.floor ≤ (envOf [] (some 1) true).live.ceiling ∧ (envOf []
      (some 1) false).usable = false
    ∧ Control.reset.trimmedLast = false := by decide
theorem witness_GrantFollowsTheRule :
    ((withParams { Params.default with weight := 1 } Params.default
        (withDevice (fun d => { d with live := { d.live with governor := true, budget := 1 } }) State.reset)).device.live.governor
      = true)
    ∧ 0 < ((withParams { Params.default with weight := 1 } Params.default State.reset).zone 0).live.weight
    ∧ State.reset.device.live.governor = false ∧ (State.reset.zone 0).live.weight = 0 := by decide +kernel
theorem witness_FrameCarriesItsDuty : 4096 ≤ 4096 ∧ 16 ≤ 16 ∧ 255 < 256 := by decide
/-- A command's order that isCycleOrder takes is one of the statement's. -/
theorem cycleOrder_of (order : List CycleEvent) (h : isCycleOrder order = true) : CycleOrder order :=
  isCycleOrder_iff.1 h
/-- The expiry between the boundaries of zones 0 and 1, in parts about the cycle start. -/
def lateLoss : List CycleEvent := [.boundary 0, .expiry] ++ linkExpiry.drop 1 ++ plainCycle.drop 2
/-- Within a cycle and at its end; an order without an expiry, with one before the cycle start and with one between two
boundaries; a timer that can expire,
  a stopped one and one that the cycle start's device commit has restarted; the zones
that have their boundaries, and one that has none. -/
theorem witness_CycleStartTakesTheBoundaries :
    ¬CycleDue { State.reset with modulator := ⟨0, 254, false⟩ } ∧ CycleDue State.reset
    ∧ CycleDue { State.reset with modulator := ⟨15, 255, false⟩ }
    ∧ CycleOrder ([] ++ .start :: plainCycle.drop 1) ∧ .expiry ∉ ([] ++ .start :: plainCycle.drop 1 : List CycleEvent)
    ∧ CycleOrder (linkExpiry ++ .start :: plainCycle.drop 1) ∧ CycleOrder ([] ++ .start :: lateLoss)
    ∧ CanExpire State.reset ([] ++ .start :: lateLoss)
    ∧ ¬CanExpire (withLink (fun l => { l with silence := none }) State.reset) ([] ++ .start :: lateLoss)
    ∧ ¬CanExpire (withDevice (fun d => { d with staged := { d.staged with timeout := 1 }, pending := true }) State.reset)
        ([] ++ .start :: lateLoss)
    ∧ ((([] ++ .start :: lateLoss : List CycleEvent).filterMap boundaryOf).filter
        (fun z => decide ((State.reset.zone z).live.frameOffset = counterAfter State.reset))
        = [] ++ 0 :: [1, 2, 3, 4, 5, 6, 7, 8, 9, 10, 11])
    ∧ heldFirst ([] ++ .start :: lateLoss) 0 = false ∧ heldFirst ([] ++ .start :: lateLoss) 1 = true
    ∧ ¬AtBoundary (withParams { Params.default with frameOffset := 15 } Params.default State.reset) 0 := by
  refine ⟨by unfold CycleDue; decide, .inl rfl, .inr (by decide), cycleOrder_of _ (by decide +kernel),
    by decide +kernel, cycleOrder_of _ (by decide +kernel), cycleOrder_of _ (by decide +kernel), ?_, ?_, ?_,
    by decide +kernel, by decide +kernel, by decide +kernel, by unfold AtBoundary; decide +kernel⟩
  · exact ⟨by decide, fun _ _ _ h => absurd h.2 (by decide)⟩
  · exact fun h => h.1 rfl
  · exact fun h => absurd (h.2 [] lateLoss rfl ⟨rfl, by decide⟩) (by simp)
theorem witness_TickDrivesEveryPin :
    ¬CycleDue { State.reset with modulator := ⟨0, 254, false⟩ } ∧ CycleDue State.reset := by
  unfold CycleDue; decide
theorem witness_CompletionHandlesTheReading :
    State.reset.scan.converting = none ∧ example05.scan.converting = some 0 ∧ example05.scan.live[0]? = some 5
    ∧ allSensors.Perm allSensors ∧ example05.scan.pending = none
    ∧ 0 + 1 < ({ example05 with scan := ⟨[5, 5], some [], some 0⟩ } : State).scan.live.length
    ∧ (0 + 1 = ({ example05 with scan := ⟨[5], some [], some 0⟩ } : State).scan.live.length
      ∧ ({ example05 with scan := ⟨[5], some [], some 0⟩ } : State).scan.pending ≠ none) :=
  ⟨rfl, rfl, rfl, List.Perm.refl _, rfl, by decide, rfl, by decide⟩
/-- A pending list that omits no sensor in use, and one that omits sensor 15, which zone 0 uses. -/
theorem witness_TakeoverFollowsTheTwoLists :
    (∃ s : State, s.scan.pending = some [3] ∧ ∀ i, InUse s i → i ∈ [(3 : SensorId)])
    ∧ (∃ s : State, s.scan.pending = some [3] ∧ InUse s 15 ∧ (15 : SensorId) ∉ [(3 : SensorId)]
      ∧ ∀ j, j < 15 → InUse s j → j ∈ [(3 : SensorId)]) := by
  refine ⟨⟨{ State.reset with scan := ⟨[], some [3], none⟩ }, rfl, ?_⟩,
    ⟨{ zoneAs 0 .held (withParams onSensor15 onSensor15 State.reset) with scan := ⟨[3], some [3], some 0⟩ }, rfl,
      ?_⟩⟩ <;>
    unfold InUse <;> decide +kernel
/-- The counts at their boundaries, in both states. -/
theorem witness_StopSamplesAreQualified :
    ∃ a b c d : State, (a.stop.asserted = false ∧ a.stop.lowCount < 2) ∧ (b.stop.asserted = false
      ∧ 2 ≤ b.stop.lowCount)
      ∧ (c.stop.asserted = true ∧ c.stop.highCount < 2) ∧ (d.stop.asserted = true ∧ 2 ≤ d.stop.highCount) :=
  ⟨{ State.reset with stop := ⟨false, 1, 0⟩ }, { State.reset with stop := ⟨false, 2, 0⟩ },
    { State.reset with stop := ⟨true, 0, 1⟩ }, { State.reset with stop := ⟨true, 0, 2⟩ }, by decide⟩

/-- The premises of the statements on invariants: a step from reset, which meets them all, with one command waiting. -/
theorem witness_StepsConserveTheProgramStore :
    (∃ t, step { State.reset with pending := [.tick] } = .next t)
    ∧ PoolConserved { State.reset with pending := [.tick] }
      ∧ UseCountsAgree { State.reset with pending := [.tick] } := by
  refine ⟨⟨_, rfl⟩, ?_, ?_⟩
  · unfold PoolConserved; decide +kernel
  · unfold UseCountsAgree; decide +kernel
theorem witness_StepsKeepTheZonesConsistent :
    (∃ t, step State.reset = .next t) ∧ CausesExactlyWhenHeld State.reset ∧ RecordsExactlyWhenTripped State.reset
      ∧ NoneActiveWhileStopped State.reset
    ∧ OutputsOffWhenInactive State.reset ∧ RestrictedOnlyIdle State.reset ∧ LiveRecordsSound State.reset
    ∧ TrimFlagsAgree State.reset := by
  unfold CausesExactlyWhenHeld RecordsExactlyWhenTripped NoneActiveWhileStopped OutputsOffWhenInactive RestrictedOnlyIdle
    LiveRecordsSound TrimFlagsAgree SoundRecord
  refine ⟨⟨_, rfl⟩, ?_, ?_, ?_, ?_, ?_, ?_, ?_⟩ <;> decide +kernel
/-- Eight reports awaiting acknowledgement, the last of them in transmission again; a go-back waits. -/
def fullWindow : State :=
  { withDevice (fun d => { d with live := { d.live with ack := true } }) (withLink (fun l => { l with
      reports := (List.range 8).map (fun n => ⟨BitVec.ofNat 8 n, .linkRestored, if n = 7 then .due else .sent⟩)
      nextSeq := 8, resend := some 5, tx := .report ⟨7, 0x84, []⟩ false, txd := lineLevels ⟨7, 0x84,
      []⟩ }) State.reset)
    with pending := [.goBack] }
theorem windowKept_fullWindow : WindowKept fullWindow := by
  have all : ∀ k q, fullWindow.link.reports[k]? = some q →
      k < 8 ∧ q.seq = fullWindow.link.nextSeq - BitVec.ofNat 8 (7 - k + 1) ∧ q.st ≠ .fresh := by
    intro k q h
    have hk : k < 8 := (List.getElem?_eq_some_iff.1 h).1
    have key : ∀ k : Fin 8, ∀ q ∈ fullWindow.link.reports[k.val]?,
        k.val < 8 ∧ q.seq = fullWindow.link.nextSeq - BitVec.ofNat 8 (7 - k.val + 1) ∧ q.st ≠ .fresh := by
      decide +kernel
    exact key ⟨k, hk⟩ q h
  refine ⟨?_, ?_, by decide +kernel, fun h => (by cases h), fun f w h => (by cases h; decide +kernel)⟩
  · intro older q newer h
    have n : older.length + (newer.length + 1) = fullWindow.link.reports.length := by rw [h]; simp
    rw [show fullWindow.link.reports.length = 8 by decide +kernel] at n
    have e := (all older.length q (by rw [h]; simp)).2.1
    rw [show 7 - older.length = newer.length by omega] at e
    exact e
  · intro older q newer h hq
    exact absurd hq (all older.length q (by rw [h]; simp)).2.2
theorem witness_StepsKeepLinkAndScanConsistent :
    (∃ t, step fullWindow = .next t) ∧ QueuesBounded fullWindow ∧ WindowKept fullWindow ∧ TxdFollows fullWindow
    ∧ SilenceStoppedWhenLost fullWindow ∧ ScanConsistent fullWindow ∧ CycleInRange fullWindow := by
  refine ⟨⟨_, rfl⟩, ?_, windowKept_fullWindow, ?_, ?_, ?_, ?_⟩
  · unfold QueuesBounded; decide +kernel
  · refine ⟨?_, ?_, ?_⟩ <;> (intros; rename_i h; cases h <;> rfl)
  · unfold SilenceStoppedWhenLost; decide +kernel
  · unfold ScanConsistent; decide +kernel
  · unfold CycleInRange; decide

end Sys2Proof.Tests
end

section
/-!
SUPPORT. Preservation by rows: what it takes for a property of states to survive a row of the table. A row is carried
out between two choices of an IDLE transmitter (R183), and a request reaches its block through the executor (R179 to
R181); neither touches anything but the link.
-/

namespace Sys2Proof.Machine

/-! ## Properties that the link has no part in -/

/-- A property that says nothing of the link: a state that differs in its link alone has it too. -/
def LinkFree (I : State → Prop) : Prop := ∀ {s t : State}, SameButLink s t → I s → I t

theorem State.wake_sameButLink (s : State) : SameButLink s s.wake := by simp [SameButLink, SamePlant]

theorem State.takeFrame_sameButLink (s : State) : SameButLink s s.takeFrame := by simp [SameButLink, SamePlant]

theorem State.answer_sameButLink (s : State) (f : WireFrame) (p : List Byte) : SameButLink s (s.answer f p) := by
  simp [SameButLink, SamePlant]

theorem State.repeatReply_sameButLink (s : State) : SameButLink s s.repeatReply := by simp [SameButLink, SamePlant]

/-- What the executor does with a frame keeps a property that the block keeps (R179 to R181). -/
theorem LinkFree.serve {I : State → Prop} (hI : LinkFree I) {block : State → Answer}
    (hb : ∀ u, I u → I (block u).2) (f : WireFrame) (ok : Bool) {s : State} (hs : I s) :
    I (s.serve f ok block) := by
  have taken : I s.takeFrame := hI s.takeFrame_sameButLink hs
  rcases s.serve_cases f ok block with ⟨-, e⟩ | ⟨-, -, e⟩ | ⟨-, -, e⟩ | ⟨-, -, e⟩ <;> rw [e]
  · exact hs
  · exact hI (State.repeatReply_sameButLink _) taken
  · exact hI (State.answer_sameButLink _ _ _) (hb _ taken)
  · exact hI (State.answer_sameButLink _ _ _) taken

/-- A frame that no block sees is answered all the same (R180, R181). -/
theorem LinkFree.serve_payload {I : State → Prop} (hI : LinkFree I) (payload : List Byte) (f : WireFrame) (ok : Bool)
    {s : State} (hs : I s) : I (s.serve f ok (fun t => (payload, t))) :=
  hI.serve (fun _ hu => hu) f ok hs

/-- A command keeps a property that its effect keeps. -/
theorem LinkFree.carryOut {I : State → Prop} (hI : LinkFree I) {effect : State → State}
    (he : ∀ u, I u → I (effect u)) {s t : State} (h : s.carryOut effect = .next t) (hs : I s) : I t := by
  obtain rfl : (effect s.wake).wake = t := by simpa [State.carryOut] using h
  exact hI (State.wake_sameButLink _) (he _ (hI s.wake_sameButLink hs))

/-- A request row keeps a property that its block keeps. -/
theorem LinkFree.request {I : State → Prop} (hI : LinkFree I) {block : State → Answer}
    (hb : ∀ u, I u → I (block u).2) {f : WireFrame} {ok : Bool} {s t : State}
    (h : s.carryOut (·.serve f ok block) = .next t) (hs : I s) : I t :=
  hI.carryOut (fun _ hu => hI.serve hb f ok hu) h hs

/-! ## Requests that name a zone, a slot or a sensor -/

theorem onZone_keeps {I : State → Prop} {p : List Byte} {s : State} {block : ZoneId → Answer} (hs : I s)
    (hb : ∀ z, I (block z).2) : I (onZone p s block).2 := by
  unfold onZone
  split
  · exact hb _
  · exact hs

theorem onSlot_keeps {I : State → Prop} {p : List Byte} {s : State} {block : SlotId → Answer} (hs : I s)
    (hb : ∀ k, I (block k).2) : I (onSlot p s block).2 := by
  unfold onSlot
  split
  · exact hb _
  · exact hs

theorem onSensor_keeps {I : State → Prop} {p : List Byte} {s : State} {block : SensorId → Answer} (hs : I s)
    (hb : ∀ i, I (block i).2) : I (onSensor p s block).2 := by
  unfold onSensor
  split
  · exact hb _
  · exact hs

end Sys2Proof.Machine
end

section
/-!
SUPPORT. The program store as the zones and the programs draw on it (R1, R4, R17, R18): the segments in use, the zones
that hold a slot's program, and what each operation over the store does to the two counts.
-/

namespace Sys2Proof.Machine

/-! ## Counting over the zones and the slots -/

/-- The segments of all programs. -/
def State.segmentsUsed (s : State) : Nat := ((List.finRange 16).map (fun k => (s.slot k).segs.length)).sum

/-- The number of zones that hold a slot's program. -/
def State.holders (s : State) (k : SlotId) : Nat := allZones.countP (fun z => decide ((s.zone z).zr.active = some k))

/-- One slot's share of the segments in use, set apart. -/
theorem State.segmentsUsed_split (s : State) (k : SlotId) :
    s.segmentsUsed = (s.slot k).segs.length
      + (((List.finRange 16).erase k).map (fun j => (s.slot j).segs.length)).sum :=
  (List.sum_map_erase _ (List.mem_finRange k)).symm

/-- One zone's share of the holders, set apart. -/
theorem State.holders_split (s : State) (k : SlotId) (z : ZoneId) :
    s.holders k = (if (s.zone z).zr.active = some k then 1 else 0)
      + (allZones.erase z).countP (fun y => decide ((s.zone y).zr.active = some k)) := by
  unfold State.holders
  rw [(List.perm_cons_erase (mem_allZones z)).countP_eq, List.countP_cons, Nat.add_comm]
  simp

theorem State.segmentsUsed_congr {s t : State} (h : ∀ k, (t.slot k).segs.length = (s.slot k).segs.length) :
    t.segmentsUsed = s.segmentsUsed := by
  simp [State.segmentsUsed, h]

theorem State.holders_congr {s t : State} (h : ∀ z, (t.zone z).zr.active = (s.zone z).zr.active) (k : SlotId) :
    t.holders k = s.holders k := by
  simp [State.holders, h]

@[simp] theorem State.holders_releaseProgram (s : State) (h : Option SlotId) (k : SlotId) :
    (s.releaseProgram h).holders k = s.holders k := State.holders_congr (fun _ => by simp) k

@[simp] theorem State.holders_useProgram (s : State) (j k : SlotId) :
    (s.useProgram j).holders k = s.holders k := State.holders_congr (fun _ => by simp) k

/-- A change of one slot's program changes the segments in use by the difference of the lengths. -/
theorem State.segmentsUsed_slot {s t : State} {k : SlotId} (h : ∀ j, j ≠ k → t.slot j = s.slot j) :
    t.segmentsUsed + (s.slot k).segs.length = s.segmentsUsed + (t.slot k).segs.length := by
  have rest : ((List.finRange 16).erase k).map (fun j => (t.slot j).segs.length)
      = ((List.finRange 16).erase k).map (fun j => (s.slot j).segs.length) :=
    List.map_congr_left fun j hj => by rw [h j ((List.nodup_finRange 16).mem_erase_iff.1 hj).1]
  rw [s.segmentsUsed_split k, t.segmentsUsed_split k, rest]
  omega

/-- A change of one zone changes a slot's holders by that zone alone. -/
theorem State.holders_setZone (s : State) (z : ZoneId) (x : Zone) (k : SlotId) :
    (s.setZone z x).holders k + (if (s.zone z).zr.active = some k then 1 else 0)
      = s.holders k + (if x.zr.active = some k then 1 else 0) := by
  have rest : (allZones.erase z).countP (fun y => decide (((s.setZone z x).zone y).zr.active = some k))
      = (allZones.erase z).countP (fun y => decide ((s.zone y).zr.active = some k)) :=
    List.countP_congr fun y hy => by simp [(allZones_nodup.mem_erase_iff.1 hy).1]
  rw [s.holders_split k z, (s.setZone z x).holders_split k z, rest]
  simp only [State.zone_setZone, if_true]
  omega

/-! ## The invariant of the program store -/

/-- The pool is conserved and the use counts agree with the zones (R1, R17). -/
def StoreSound (s : State) : Prop := PoolConserved s ∧ UseCountsAgree s

/-- The zone record holds a program, and the same one, exactly when the other does. -/
def ZoneRec.SameHolding (r r' : ZoneRec) : Prop := r'.active = r.active ∧ r'.holdsProgram = r.holdsProgram

theorem ZoneRec.SameHolding.refl (r : ZoneRec) : r.SameHolding r := ⟨rfl, rfl⟩

theorem PoolConserved.of_lengths {s t : State} (h : PoolConserved s) (hf : t.store.free = s.store.free)
    (hl : ∀ k, (t.slot k).segs.length = (s.slot k).segs.length) : PoolConserved t := by
  obtain ⟨sum, bound⟩ := h
  refine ⟨?_, fun k => hl k ▸ bound k⟩
  rw [hf]
  exact (congrArg (s.store.free + ·) (State.segmentsUsed_congr hl)).trans sum

/-- The invariant reads the store and what each zone holds, and nothing else. -/
theorem StoreSound.of_holdings {s t : State} (hs : StoreSound s) (h : t.store = s.store)
    (hz : ∀ z, (s.zone z).zr.SameHolding (t.zone z).zr) : StoreSound t := by
  obtain ⟨pool, count, holds, sealedOf⟩ := hs
  have slots : ∀ k, t.slot k = s.slot k := ((s.store_eq_iff t).1 h).2
  refine ⟨pool.of_lengths (by rw [h]) (fun k => by rw [slots k]), fun k => ?_, fun z => ?_, fun k => ?_⟩
  · rw [slots k, count k]
    exact (State.holders_congr (fun z => (hz z).1) k).symm
  · rw [(hz z).1, (hz z).2, holds z]
  · rw [slots k]
    exact sealedOf k

theorem StoreSound.of_same {s t : State} (hs : StoreSound s) (h : t.store = s.store) (hz : t.zones = s.zones) :
    StoreSound t :=
  hs.of_holdings h fun z => by rw [(s.zones_eq_iff t).1 hz z]; exact .refl _

theorem storeSound_linkFree : LinkFree StoreSound := fun h hs => hs.of_same h.1 h.2.1

/-- A zone record changes, and what it holds does not. -/
theorem StoreSound.setZone {s : State} (hs : StoreSound s) {z : ZoneId} {x : Zone}
    (h : (s.zone z).zr.SameHolding x.zr) : StoreSound (s.setZone z x) := by
  refine hs.of_holdings rfl fun y => ?_
  rw [State.zone_setZone]
  split
  · next e => exact e ▸ h
  · exact .refl _

/-- A zone leaves its program, and the program is released (R18). -/
theorem StoreSound.leave {s : State} (hs : StoreSound s) {z : ZoneId} {x : Zone} (ha : x.zr.active = none)
    (hx : x.zr.holdsProgram = false) : StoreSound ((s.setZone z x).releaseProgram (s.zone z).zr.active) := by
  obtain ⟨pool, count, holds, sealedOf⟩ := hs
  refine ⟨pool.of_lengths (by simp) (fun k => ?_), fun k => ?_, fun y => ?_, fun k => ?_⟩
  · rw [State.releaseProgram_slot]
    split <;> rfl
  · have e := s.holders_setZone z x k
    have c : (s.slot k).useCount = s.holders k := count k
    change _ = State.holders _ k
    rw [State.holders_releaseProgram, State.releaseProgram_slot, State.setZone_slot]
    by_cases held : (s.zone z).zr.active = some k <;> simp only [ha, held, reduceCtorEq, if_true, if_false] at e ⊢ <;>
      omega
  · rw [State.releaseProgram_zone, State.zone_setZone]
    split
    · rw [ha, hx]; rfl
    · exact holds y
  · rw [State.releaseProgram_slot]
    split
    · exact fun h => sealedOf k (Nat.lt_of_lt_of_le h (Nat.sub_le _ _))
    · exact sealedOf k

/-- A zone that holds no program takes up a SEALED one, and its use count rises (R17). -/
theorem StoreSound.take {s : State} (hs : StoreSound s) {z : ZoneId} {x : Zone} {k : SlotId}
    (hz : (s.zone z).zr.holdsProgram = false) (ha : x.zr.active = some k) (hx : x.zr.holdsProgram = true)
    (hk : (s.slot k).state = .sealed) : StoreSound ((s.setZone z x).useProgram k) := by
  obtain ⟨pool, count, holds, sealedOf⟩ := hs
  have none_held : (s.zone z).zr.active = none := by
    have := holds z
    rw [hz] at this
    simpa using this
  refine ⟨pool.of_lengths rfl (fun j => ?_), fun j => ?_, fun y => ?_, fun j => ?_⟩
  · rw [State.useProgram_slot]
    split
    · next e => rw [e]; rfl
    · rfl
  · have e := s.holders_setZone z x j
    have c : (s.slot j).useCount = s.holders j := count j
    change _ = State.holders _ j
    rw [none_held, ha] at e
    rw [State.holders_useProgram, State.useProgram_slot]
    by_cases hj : j = k
    · subst hj
      simpa [c] using e.symm
    · have hj' : k ≠ j := fun h => hj h.symm
      simpa [hj, hj', c] using e.symm
  · rw [State.useProgram_zone, State.zone_setZone]
    split
    · rw [ha, hx]; rfl
    · exact holds y
  · rw [State.useProgram_slot]
    split
    · exact fun _ => hk
    · exact sealedOf j

/-- One slot's program changes: the free count makes up for its length, and the use count stays (R6, R8, R13, R14). -/
theorem StoreSound.changeSlot {s t : State} (hs : StoreSound s) {k : SlotId} (hz : t.zones = s.zones)
    (hj : ∀ j, j ≠ k → t.slot j = s.slot j)
    (hf : t.store.free + (t.slot k).segs.length = s.store.free + (s.slot k).segs.length)
    (hl : (t.slot k).segs.length ≤ Config.maxProgram) (hu : (t.slot k).useCount = (s.slot k).useCount)
    (hsealed : 0 < (t.slot k).useCount → (t.slot k).state = .sealed) : StoreSound t := by
  obtain ⟨⟨sum, bound⟩, count, holds, sealedOf⟩ := hs
  have zones : ∀ z, t.zone z = s.zone z := (s.zones_eq_iff t).1 hz
  refine ⟨⟨?_, fun j => ?_⟩, fun j => ?_, fun z => ?_, fun j => ?_⟩
  · have e := State.segmentsUsed_slot hj
    change t.store.free + t.segmentsUsed = _
    change s.store.free + s.segmentsUsed = _ at sum
    omega
  · by_cases e : j = k
    · exact e ▸ hl
    · exact hj j e ▸ bound j
  · have same : (t.slot j).useCount = (s.slot j).useCount := by
      by_cases e : j = k
      · exact e ▸ hu
      · rw [hj j e]
    rw [same, count j]
    exact (State.holders_congr (fun z => by rw [zones z]) j).symm
  · rw [zones z, holds z]
  · by_cases e : j = k
    · exact e ▸ hsealed
    · exact hj j e ▸ sealedOf j

end Sys2Proof.Machine
end

section
/-!
SUPPORT. What the executor's stage of a boundary does to the program that a zone holds (R17, R18, R40, R53 to R60): it
goes on holding it, or it has released it at the END.
-/

namespace Sys2Proof.Machine

/-! ## Stages that leave the state, the resume target and the program -/

/-- The zone's state, its resume target and its program are those of another record. -/
def ZoneRec.SameStand (r r' : ZoneRec) : Prop := r'.state = r.state ∧ r'.target = r.target ∧ r'.active = r.active

theorem ZoneRec.SameStand.refl (r : ZoneRec) : r.SameStand r := ⟨rfl, rfl, rfl⟩

theorem ZoneRec.SameStand.trans {a b c : ZoneRec} (h : a.SameStand b) (k : b.SameStand c) : a.SameStand c :=
  ⟨k.1.trans h.1, k.2.1.trans h.2.1, k.2.2.trans h.2.2⟩

theorem ZoneRec.SameStand.sameHolding {r r' : ZoneRec} (h : r.SameStand r') : r.SameHolding r' := by
  obtain ⟨state, target, active⟩ := h
  exact ⟨active, by simp [ZoneRec.holdsProgram, state, target]⟩

/-- The chain moves the position alone (R27, R37 to R41). -/
theorem RunEnv.chain_sameStand (e : RunEnv) (n i : Nat) (r : ZoneRec) (reports : List Report) :
    r.SameStand (e.chain n i r reports).1 := by
  induction n generalizing i r reports with
  | zero =>
    unfold RunEnv.chain
    repeat' split
    all_goals exact ⟨rfl, rfl, rfl⟩
  | succ n ih =>
    have onward : ∀ (r' : ZoneRec) (j : Nat) (reps : List Report), r.SameStand r' →
        r.SameStand (e.chain n j r' reps).1 := fun _ _ _ h => h.trans (ih _ _ _)
    unfold RunEnv.chain
    split
    · exact .refl r
    split
    · exact .refl r
    split
    · exact ⟨rfl, rfl, rfl⟩
    split
    · exact onward _ _ _ ⟨rfl, rfl, rfl⟩
    · exact onward _ _ _ ⟨rfl, rfl, rfl⟩
    · split
      · exact ⟨rfl, rfl, rfl⟩
      · exact onward _ _ _ ⟨rfl, rfl, rfl⟩
    · exact ⟨rfl, rfl, rfl⟩
    · exact onward _ _ _ ⟨rfl, rfl, rfl⟩
    all_goals exact .refl r

/-- The time charge moves the elapsed time and the hold-back flag alone (R25). -/
theorem RunEnv.charge_sameStand (e : RunEnv) (g : Seg) (r : ZoneRec) : r.SameStand (e.charge g r) := by
  unfold RunEnv.charge RunEnv.chargeBanded
  repeat' split
  all_goals exact ⟨rfl, rfl, rfl⟩

/-- The zone record with which an end test that does not stay goes on. -/
def EndTest.record? : EndTest → Option ZoneRec
  | .stays => none
  | .ends r _ | .settleHold r _ => some r

/-- The end test moves flags and the setpoint alone (R26). -/
theorem RunEnv.endTest_sameStand (e : RunEnv) (g : Seg) (r : ZoneRec) {r' : ZoneRec}
    (h : (e.endTest g r).record? = some r') : r.SameStand r' := by
  revert h
  unfold RunEnv.endTest RunEnv.endTestStep
  repeat' split
  all_goals
    intro h
    cases h
    try exact ⟨rfl, rfl, rfl⟩

/-! ## Updates -/

/-- An update after which the zone holds what it held, or has released it and holds nothing. -/
def Update.HoldsOn (u : Update) (r : ZoneRec) : Prop :=
  if u.released then u.zr.active = none ∧ u.zr.holdsProgram = false else r.SameHolding u.zr

theorem Update.HoldsOn.of_sameStand {u : Update} {a b : ZoneRec} (h : a.SameStand b) (hu : u.HoldsOn b) :
    u.HoldsOn a := by
  have k := h.sameHolding
  unfold Update.HoldsOn at *
  split
  · next e => simpa [e] using hu
  · next e =>
    rw [if_neg e] at hu
    exact ⟨hu.1.trans k.1, hu.2.trans k.2⟩

/-- A zone that holds its program goes on holding it in HELD with resume target RUNNING (R54, R57, R58). -/
theorem RunEnv.hold_holdsOn (e : RunEnv) {r : ZoneRec} (h : r.holdsProgram = true) (reports : List Report)
    (c : Cause) (why : StateReason) : (e.hold r reports c why .running false).HoldsOn r :=
  ⟨rfl, h.symm⟩

/-- A zone in KEEPING, or on its way there, holds nothing (R60). -/
theorem RunEnv.keep_holdsOn (e : RunEnv) {r : ZoneRec} (h : r.holdsProgram = false) (reports : List Report) :
    (e.keep r reports false).HoldsOn r := by
  unfold RunEnv.keep
  repeat' split
  · exact ⟨rfl, rfl⟩
  · exact ⟨rfl, h.symm⟩
  · exact ⟨rfl, rfl⟩

/-- A zone that enters KEEPING without a program has released it (R40, R60, R67). -/
theorem RunEnv.keep_released (e : RunEnv) {r : ZoneRec} (h : r.holdsProgram = false) (ha : r.active = none)
    (reports : List Report) (r' : ZoneRec) : (e.keep r reports true).HoldsOn r' := by
  unfold RunEnv.keep
  repeat' split
  · exact ⟨ha, h⟩
  · exact ⟨ha, rfl⟩
  · exact ⟨ha, h⟩

theorem RunEnv.finish_holdsOn (e : RunEnv) (r : ZoneRec) (reports : List Report) (keep : Bool) :
    (e.finish r reports keep).HoldsOn r := by
  unfold RunEnv.finish
  cases keep
  · exact ⟨rfl, rfl⟩
  · exact e.keep_released rfl rfl _ _

theorem RunEnv.conclude_holdsOn (e : RunEnv) (r : ZoneRec) (reports : List Report) :
    (e.conclude r reports).HoldsOn r := by
  unfold RunEnv.conclude
  repeat' split
  all_goals exact ⟨rfl, rfl⟩

/-- The progress stage, by how its chain stops (R23, R41). -/
theorem RunEnv.progress_holdsOn (e : RunEnv) {r : ZoneRec} (h : r.holdsProgram = true) (i : Nat)
    (reports : List Report) : (e.progress i r reports).HoldsOn r := by
  have stand := e.chain_sameStand Config.chainLimit i r reports
  have holding := stand.sameHolding
  unfold RunEnv.progress
  split <;> rename_i hc <;> rw [hc] at stand holding
  · split
    · exact (e.hold_holdsOn (holding.2.trans h) _ _ _).of_sameStand stand
    · exact (e.conclude_holdsOn _ _).of_sameStand stand
  · exact holding
  · exact (e.hold_holdsOn (holding.2.trans h) _ _ _).of_sameStand stand
  · exact (e.finish_holdsOn _ _ _).of_sameStand stand
  · exact holding

theorem RunEnv.fourStages_holdsOn (e : RunEnv) {r : ZoneRec} (h : r.holdsProgram = true) :
    (e.fourStages r).HoldsOn r := by
  unfold RunEnv.fourStages
  split
  · split
    · next g _ =>
      have charged := e.charge_sameStand g r
      dsimp only
      split
      · exact (e.conclude_holdsOn _ _).of_sameStand charged
      · next r' _ ht =>
        have stand := charged.trans (e.endTest_sameStand g _ (by rw [ht]; rfl))
        exact (e.progress_holdsOn (stand.sameHolding.2.trans h) _ _).of_sameStand stand
      · next r' _ ht =>
        have stand := charged.trans (e.endTest_sameStand g _ (by rw [ht]; rfl))
        exact (e.hold_holdsOn (stand.sameHolding.2.trans h) _ _ _).of_sameStand stand
    · exact e.conclude_holdsOn _ _
  · exact e.progress_holdsOn h _ _

theorem ZoneRec.countStep_sameHolding (r : ZoneRec) : r.SameHolding r.countStep := by
  unfold ZoneRec.countStep
  split <;> exact ⟨rfl, rfl⟩

theorem RunEnv.runUpdate_holdsOn (e : RunEnv) {r : ZoneRec} (h : r.holdsProgram = true) :
    (e.runUpdate r).HoldsOn r := by
  unfold RunEnv.runUpdate
  split
  · exact e.hold_holdsOn h _ _ _
  · have u := e.fourStages_holdsOn h
    have c := (e.fourStages r).zr.countStep_sameHolding
    unfold Update.HoldsOn at u ⊢
    dsimp only
    split
    · next released =>
      rw [if_pos released] at u
      exact ⟨c.1.trans u.1, c.2.trans u.2⟩
    · next released =>
      rw [if_neg released] at u
      exact ⟨c.1.trans u.1, c.2.trans u.2⟩

/-- The executor's stage of a boundary (R53). -/
theorem RunEnv.executorStage_holdsOn (e : RunEnv) (r : ZoneRec) : (e.executorStage r).HoldsOn r := by
  unfold RunEnv.executorStage
  split <;> rename_i hr
  · exact e.runUpdate_holdsOn (by simp [ZoneRec.holdsProgram, hr])
  · have held : r.holdsProgram = true := by simp [ZoneRec.holdsProgram, hr]
    split
    · exact e.hold_holdsOn held _ _ _
    · exact e.runUpdate_holdsOn held
  · exact ⟨rfl, rfl⟩
  · exact e.keep_holdsOn (by simp [ZoneRec.holdsProgram, hr]) _
  · exact ⟨rfl, rfl⟩
  · exact ⟨rfl, rfl⟩

end Sys2Proof.Machine
end

section
/-!
SUPPORT. What the two resets leave of each slot, zone and sensor (R20, R21, R44, R72, R73, R108, R109).
-/

namespace Sys2Proof.Machine

section
variable (rate : LinkRate) (cause : StartCause)

@[simp] theorem State.afterHardReset_free : (State.afterHardReset rate cause).store.free = Config.poolSize := rfl

@[simp] theorem State.afterHardReset_slot (k : SlotId) : (State.afterHardReset rate cause).slot k = .reset := by
  simp [State.slot, State.afterHardReset]

@[simp] theorem State.afterHardReset_zone (z : ZoneId) : (State.afterHardReset rate cause).zone z = .reset := by
  simp [State.zone, State.afterHardReset]

@[simp] theorem State.afterHardReset_sensor (i : SensorId) : (State.afterHardReset rate cause).sensor i = .reset := by
  simp [State.sensor, State.afterHardReset]

end

section
variable (s : State)

@[simp] theorem State.softResetAll_free : s.softResetAll.store.free = s.store.free := rfl

@[simp] theorem State.softResetAll_slot (k : SlotId) : s.softResetAll.slot k = { s.slot k with useCount := 0 } := by
  simp [State.slot, State.softResetAll]

@[simp] theorem State.softResetAll_zone (z : ZoneId) : s.softResetAll.zone z = (s.zone z).softReset := by
  simp [State.zone, State.softResetAll]

@[simp] theorem State.softResetAll_sensor (i : SensorId) :
    s.softResetAll.sensor i = (s.sensor i).softReset (s.scan.live.contains i) := by
  simp [State.sensor, State.softResetAll]

end

end Sys2Proof.Machine
end

section
/-!
The program store is conserved (R1, R17): each row of the table keeps the pool and the use counts, so every step does.
-/

namespace Sys2Proof.Machine

/-! ## The program requests -/

/-- A slot without use is emptied, and its segments return to the free list (R6, R14). -/
theorem StoreSound.emptySlot {s : State} (hs : StoreSound s) {k : SlotId} (hk : (s.slot k).useCount = 0)
    (st : SlotState) : StoreSound (s.emptySlot k st) := by
  refine hs.changeSlot (k := k) rfl (fun j hj => ?_) ?_ ?_ ?_ ?_ <;> simp_all

/-- A slot that is not SEALED is in no use. -/
theorem StoreSound.useCount_zero {s : State} (hs : StoreSound s) {k : SlotId} (hk : (s.slot k).state = .opened) :
    (s.slot k).useCount = 0 := by
  have := hs.2.2.2 k
  simp_all

/-- Segments that fit are taken from the free list (R8). -/
theorem StoreSound.appendSegs {s : State} (hs : StoreSound s) {k : SlotId} (hk : (s.slot k).state = .opened)
    {segs : List Seg} (free : segs.length ≤ s.store.free)
    (room : (s.slot k).segs.length + segs.length ≤ Config.maxProgram) : StoreSound (s.appendSegs k segs) := by
  have unused := hs.useCount_zero hk
  refine hs.changeSlot (k := k) rfl (fun j hj => ?_) ?_ ?_ ?_ ?_ <;> simp_all
  omega

theorem blockProgOpen_storeSound (p : List Byte) (s : State) (hs : StoreSound s) :
    StoreSound (blockProgOpen p s).2 :=
  onSlot_keeps hs fun k => by
    dsimp only
    split
    · exact hs
    · exact hs.emptySlot (by omega) _

theorem blockProgDelete_storeSound (p : List Byte) (s : State) (hs : StoreSound s) :
    StoreSound (blockProgDelete p s).2 :=
  onSlot_keeps hs fun k => by
    dsimp only
    split
    · exact hs
    · exact hs.emptySlot (by omega) _

theorem blockProgAppend_storeSound (p : List Byte) (s : State) (hs : StoreSound s) :
    StoreSound (blockProgAppend p s).2 :=
  onSlot_keeps hs fun k => by
    dsimp only
    split
    · exact hs
    split
    · exact hs
    · next opened fits => exact hs.appendSegs (by simpa using opened) (by omega) (by omega)

theorem blockProgSeal_storeSound (p : List Byte) (s : State) (hs : StoreSound s) :
    StoreSound (blockProgSeal p s).2 :=
  onSlot_keeps hs fun k => by
    have bound := hs.1.2 k
    dsimp only
    split
    · exact hs
    next opened =>
    have unused := hs.useCount_zero (k := k) (by simpa using opened)
    split <;> refine hs.changeSlot (k := k) rfl (fun j hj => ?_) ?_ ?_ ?_ ?_ <;> simp_all

/-! ## Starts, holds and trips -/

theorem StoreSound.reportState {s : State} (hs : StoreSound s) (z : ZoneId) (old : ZoneState) (why : StateReason) :
    StoreSound (s.reportState z old why) :=
  hs.of_same (by simp) (by simp)

theorem StoreSound.submit {s : State} (hs : StoreSound s) (r : Report) : StoreSound (s.submit r) :=
  hs.of_same rfl rfl

/-- A start is accepted on an IDLE zone and a SEALED slot alone (R50). -/
theorem State.startFault_none {s : State} {z : ZoneId} {k : SlotId} (h : s.startFault z k = none) :
    (s.zone z).zr.state = .idle ∧ (s.slot k).state = .sealed := by
  unfold State.startFault at h
  dsimp only at h
  repeat' split at h
  all_goals simp_all

theorem StoreSound.startZone {s : State} (hs : StoreSound s) {z : ZoneId} {k : SlotId}
    (hz : (s.zone z).zr.state = .idle) (hk : (s.slot k).state = .sealed) (setpoint : Int) :
    StoreSound (s.startZone z k setpoint) := by
  have idle : (s.zone z).zr.holdsProgram = false := by simp [ZoneRec.holdsProgram, hz]
  exact .reportState (hs.take idle rfl rfl hk) _ _ _

theorem blockZoneStart_storeSound (p : List Byte) (s : State) (hs : StoreSound s) :
    StoreSound (blockZoneStart p s).2 :=
  onZone_keeps hs fun z => by
    split
    · exact hs
    split
    · exact hs
    · next accepted =>
      obtain ⟨idle, isSealed⟩ := State.startFault_none accepted
      exact hs.startZone idle isSealed _

theorem blockZoneAbort_storeSound (p : List Byte) (s : State) (hs : StoreSound s) :
    StoreSound (blockZoneAbort p s).2 :=
  onZone_keeps hs fun z => by
    dsimp only
    split
    · exact hs
    · exact hs
    · exact (hs.leave rfl rfl).reportState _ _ _

theorem ZoneRec.holdFor_sameHolding (r : ZoneRec) (c : Cause) : r.SameHolding (r.holdFor c) := by
  unfold ZoneRec.holdFor
  cases h : r.state <;> exact ⟨rfl, by simp [ZoneRec.holdsProgram, targetFrom, h]⟩

theorem StoreSound.holdZone {s : State} (hs : StoreSound s) (z : ZoneId) (c : Cause) (why : StateReason) :
    StoreSound (s.holdZone z c why) := by
  have held : StoreSound (s.setZone z { s.zone z with zr := (s.zone z).zr.holdFor c }) :=
    hs.setZone (ZoneRec.holdFor_sameHolding _ c)
  unfold State.holdZone
  dsimp only
  split
  · exact held
  · exact held.reportState _ _ _

theorem blockZonePause_storeSound (p : List Byte) (s : State) (hs : StoreSound s) :
    StoreSound (blockZonePause p s).2 :=
  onZone_keeps hs fun z => by
    dsimp only
    split
    · exact hs.holdZone z _ _
    · exact hs

/-- A HELD zone that returns to its resume target holds what it held (R45, R63). -/
theorem ZoneRec.resume_sameHolding {r : ZoneRec} (h : r.state = .held) (removed : Causes) :
    r.SameHolding (r.resume removed) := by
  refine ⟨rfl, ?_⟩
  by_cases left : (r.causes.minus removed).isEmpty
  · cases target : r.target <;> simp [ZoneRec.resume, ZoneRec.holdsProgram, left, h, target]
  · simp [ZoneRec.resume, ZoneRec.holdsProgram, left, h]

theorem blockZoneResume_storeSound (p : List Byte) (s : State) (hs : StoreSound s) :
    StoreSound (blockZoneResume p s).2 :=
  onZone_keeps hs fun z => by
    dsimp only
    split
    · exact hs
    next held =>
    have resumed : ∀ removed, StoreSound (s.setZone z { s.zone z with zr := (s.zone z).zr.resume removed }) :=
      fun removed => hs.setZone (ZoneRec.resume_sameHolding (by simpa using held) removed)
    change StoreSound (ite _ _ _)
    split
    · exact resumed _
    · refine .reportState ?_ _ _ _
      exact resumed _

theorem blockZoneStep_storeSound (p : List Byte) (s : State) (hs : StoreSound s) :
    StoreSound (blockZoneStep p s).2 :=
  onZone_keeps hs fun z => by
    dsimp only
    split
    · exact hs
    split
    · next steppable =>
      refine .reportState ?_ _ _ _
      refine hs.setZone ⟨rfl, ?_⟩
      simp only [ZoneRec.steppable, Bool.and_eq_true, decide_eq_true_eq] at steppable
      obtain ⟨⟨⟨state, target⟩, -⟩, -⟩ := steppable
      simp [ZoneRec.holdsProgram, state, target]
    · exact hs

theorem blockZoneSkip_storeSound (p : List Byte) (s : State) (hs : StoreSound s) :
    StoreSound (blockZoneSkip p s).2 :=
  onZone_keeps hs fun z => by
    dsimp only
    split
    · exact hs.setZone ⟨rfl, rfl⟩
    · exact hs

/-- A trip releases the program of an active zone (R117), and changes no other zone's holding (R118). -/
theorem StoreSound.trip {s : State} (hs : StoreSound s) (z : ZoneId) (c : TripCause) (g : Option TripGuard) :
    StoreSound (s.trip z c g) := by
  rcases ZoneState.active_cases (s.zone z).zr.state with active | tripped | idle
  · rw [State.trip_active active]
    exact (hs.leave rfl rfl).submit _
  · rw [State.trip_tripped tripped]
    exact hs.setZone ⟨rfl, rfl⟩
  · rwa [State.trip_idle idle]

theorem StoreSound.tripAll {s : State} (hs : StoreSound s) (c : TripCause) : StoreSound (s.tripAll c) :=
  List.foldlRecOn _ _ hs fun _ h z _ => h.trip z c none

theorem blockAllStop_storeSound (s : State) (hs : StoreSound s) : StoreSound (blockAllStop s).2 := by
  dsimp only [blockAllStop]
  exact hs.tripAll .hostAll

theorem blockZoneTrip_storeSound (p : List Byte) (s : State) (hs : StoreSound s) :
    StoreSound (blockZoneTrip p s).2 :=
  onZone_keeps hs fun z => by
    dsimp only
    split
    · exact hs.trip z _ _
    · exact hs

theorem blockZoneClearTrip_storeSound (p : List Byte) (s : State) (hs : StoreSound s) :
    StoreSound (blockZoneClearTrip p s).2 :=
  onZone_keeps hs fun z => by
    dsimp only
    split
    · exact hs
    next tripped =>
    split
    · exact hs
    split
    · exact hs
    · refine .reportState ?_ _ _ _
      refine hs.setZone ⟨rfl, ?_⟩
      have : (s.zone z).zr.state = .tripped := by simpa using tripped
      simp [Zone.clearTrip, ZoneRec.holdsProgram, this]

/-! ## Requests that leave the store and the programs held -/

theorem blockRestart_storeSound (s : State) (hs : StoreSound s) : StoreSound (blockRestart s).2 :=
  hs.of_same rfl rfl

theorem blockAckReports_storeSound (p : List Byte) (s : State) (hs : StoreSound s) :
    StoreSound (blockAckReports p s).2 :=
  hs.of_same rfl rfl

theorem blockDeviceSet_storeSound (p : List Byte) (s : State) (hs : StoreSound s) :
    StoreSound (blockDeviceSet p s).2 := by
  unfold blockDeviceSet
  repeat' split
  · exact hs
  · exact hs
  · exact hs.of_same rfl rfl

theorem blockDeviceGet_storeSound (p : List Byte) (s : State) (hs : StoreSound s) :
    StoreSound (blockDeviceGet p s).2 := by
  unfold blockDeviceGet
  split <;> exact hs

theorem blockDeviceCommit_storeSound (s : State) (hs : StoreSound s) : StoreSound (blockDeviceCommit s).2 := by
  unfold blockDeviceCommit
  split
  · exact hs
  · exact hs.of_same rfl rfl

theorem blockProgRead_storeSound (p : List Byte) (s : State) (hs : StoreSound s) :
    StoreSound (blockProgRead p s).2 :=
  onSlot_keeps hs fun k => by
    dsimp only
    repeat' split
    all_goals exact hs

theorem blockZoneSetParam_storeSound (p : List Byte) (s : State) (hs : StoreSound s) :
    StoreSound (blockZoneSetParam p s).2 :=
  onZone_keeps hs fun z => by
    dsimp only
    repeat' split
    · exact hs
    · exact hs
    · exact hs.setZone ⟨rfl, rfl⟩

theorem blockZoneGetParam_storeSound (p : List Byte) (s : State) (hs : StoreSound s) :
    StoreSound (blockZoneGetParam p s).2 :=
  onZone_keeps hs fun z => by
    dsimp only
    split <;> exact hs

theorem blockZoneCommit_storeSound (p : List Byte) (s : State) (hs : StoreSound s) :
    StoreSound (blockZoneCommit p s).2 :=
  onZone_keeps hs fun z => by
    dsimp only
    split
    · exact hs
    · exact hs.setZone ⟨rfl, rfl⟩

theorem blockZoneDiscard_storeSound (p : List Byte) (s : State) (hs : StoreSound s) :
    StoreSound (blockZoneDiscard p s).2 :=
  onZone_keeps hs fun z => by
    have discarded : StoreSound (s.setZone z { s.zone z with
        staged := (s.zone z).live, pending := false, restricted := false }) := hs.setZone ⟨rfl, rfl⟩
    dsimp only
    split
    · exact discarded.submit _
    · exact discarded

theorem blockSensorSet_storeSound (p : List Byte) (s : State) (hs : StoreSound s) :
    StoreSound (blockSensorSet p s).2 :=
  onSensor_keeps hs fun i => by
    split
    · exact hs
    · exact hs.of_same rfl rfl

theorem StoreSound.takePending {s : State} (hs : StoreSound s) (order : List SensorId) :
    StoreSound (s.takePending order) := by
  unfold State.takePending
  dsimp only
  repeat' split
  · exact hs
  · exact hs.of_same rfl rfl
  · exact hs.of_same (by simp) (by simp)

theorem blockScanSet_storeSound (p : List Byte) (s : State) (hs : StoreSound s) :
    StoreSound (blockScanSet p s).2 := by
  unfold blockScanSet
  split
  · exact hs
  next list _ =>
  have listed : StoreSound { s with scan := { s.scan with pending := some list } } := hs.of_same rfl rfl
  dsimp only
  split
  · exact (listed.takePending _).of_same rfl rfl
  · exact listed

/-! ## The line, the transmitter and the timers -/

theorem StoreSound.goodFrame {s : State} (hs : StoreSound s) (f : WireFrame) : StoreSound (s.goodFrame f) :=
  hs.of_same (by simp [State.goodFrame]) (by simp [State.goodFrame])

theorem StoreSound.hunt {s : State} (hs : StoreSound s) : StoreSound s.hunt := hs.of_same rfl rfl

theorem StoreSound.countLoss {s : State} (hs : StoreSound s) (c : LossCause) : StoreSound (s.countLoss c) :=
  hs.of_same rfl rfl

theorem StoreSound.collect {s : State} (hs : StoreSound s) (bytes : List Byte) : StoreSound (s.collect bytes) := by
  unfold State.collect
  repeat' split
  · exact hs.hunt.countLoss _
  · exact hs.hunt.goodFrame _
  · exact hs.hunt.countLoss _
  · exact hs.of_same rfl rfl

theorem StoreSound.loseLink {s : State} (hs : StoreSound s) : StoreSound s.loseLink := by
  unfold State.loseLink
  split
  · exact hs
  · exact hs.of_same rfl rfl

theorem StoreSound.holdForLink {s : State} (hs : StoreSound s) (z : ZoneId) : StoreSound (s.holdForLink z) :=
  hs.holdZone z _ _

theorem StoreSound.holdZones {s : State} (hs : StoreSound s) (zs : List ZoneId) :
    StoreSound (zs.foldl State.holdForLink s) :=
  List.foldlRecOn _ _ hs fun _ h z _ => h.holdForLink z

/-! ## The resets -/

/-- After a hard reset the pool is free, and no zone holds a program (R20, R72). -/
theorem storeSound_afterHardReset (rate : LinkRate) (cause : StartCause) :
    StoreSound (State.afterHardReset rate cause) := by
  refine ⟨⟨?_, fun k => ?_⟩, fun k => ?_, fun z => ?_, fun k => ?_⟩
  · simp [Slot.reset]
  · simp [Slot.reset]
  · simp [Slot.reset, Zone.reset, ZoneRec.reset]
  · simp [Zone.reset, ZoneRec.reset, ZoneRec.holdsProgram]
  · simp [Slot.reset]

/-- After a soft reset the programs stand, and no zone holds one: a zone that was not TRIPPED is IDLE, and a TRIPPED one
held none (R21, R73). -/
theorem StoreSound.softResetAll {s : State} (hs : StoreSound s) : StoreSound s.softResetAll := by
  obtain ⟨pool, -, holds, -⟩ := hs
  have vacant : ∀ z, (s.softResetAll.zone z).zr.active = none ∧ (s.softResetAll.zone z).zr.holdsProgram = false := by
    intro z
    rw [State.softResetAll_zone]
    simp only [Zone.softReset, ZoneRec.softReset]
    split
    · next tripped =>
      have h := holds z
      simp only [ZoneRec.holdsProgram, tripped, Option.isSome_eq_false_iff, Option.isNone_iff_eq_none] at h ⊢
      exact ⟨h, trivial⟩
    · exact ⟨rfl, rfl⟩
  refine ⟨pool.of_lengths rfl (fun k => by simp), fun k => ?_, fun z => ?_, fun k => ?_⟩
  · simp only [vacant, State.softResetAll_slot]
    simp
  · rw [(vacant z).1, (vacant z).2]; rfl
  · simp

theorem StoreSound.endFrame {s : State} (hs : StoreSound s) : StoreSound s.endFrame := by
  unfold State.endFrame
  split
  · exact hs.softResetAll
  · exact hs.of_same rfl rfl

/-! ## The modulator, the boundaries and the converter -/

theorem StoreSound.startTick {s : State} (hs : StoreSound s) (t : Nat) : StoreSound (s.startTick t) :=
  hs.of_holdings rfl fun z => by rw [State.startTick_zone]; exact ⟨rfl, rfl⟩

theorem StoreSound.stagingStage {s : State} (hs : StoreSound s) (z : ZoneId) : StoreSound (s.stagingStage z) := by
  unfold State.stagingStage
  split
  · refine .submit ?_ _
    exact hs.setZone ⟨rfl, rfl⟩
  · exact hs

/-- The executor's stage moves the zone's record and releases the program that the zone has left (R53). -/
theorem StoreSound.executorStage {s : State} (hs : StoreSound s) (z : ZoneId) {u : Update}
    (hu : u.HoldsOn (s.zone z).zr) : StoreSound (s.executorStage z u) := by
  unfold State.executorStage Update.HoldsOn at *
  dsimp only
  split <;> rename_i released
  · rw [if_pos released] at hu
    exact (hs.leave (z := z) (x := { s.zone z with zr := u.zr }) hu.1 hu.2).of_same (by simp) (by simp)
  · rw [if_neg released] at hu
    exact (hs.setZone (x := { s.zone z with zr := u.zr }) hu).of_same (by simp) (by simp)

theorem StoreSound.governorStage {s : State} (hs : StoreSound s) (z : ZoneId) (demand : Nat) :
    StoreSound (s.governorStage z demand).2 := by
  have returned : StoreSound (s.setZone z (s.zone z).returnHolding) := hs.setZone ⟨rfl, rfl⟩
  unfold State.governorStage
  dsimp only
  split
  · exact returned.setZone ⟨rfl, rfl⟩
  · refine .submit ?_ _
    exact returned.setZone ⟨rfl, rfl⟩

/-- The five stages of a boundary keep the store, one after the other. -/
theorem StoreSound.boundary {s : State} (hs : StoreSound s) (z : ZoneId) : StoreSound (s.boundary z) := by
  unfold State.boundary
  have executed := (hs.stagingStage z).executorStage z
    (((s.stagingStage z).env z).executorStage_holdsOn ((s.stagingStage z).zone z).zr)
  exact (executed.governorStage z _).setZone ⟨rfl, rfl⟩

theorem StoreSound.cycleZone {s : State} (hs : StoreSound s) (z : ZoneId) : StoreSound (s.cycleZone z) := by
  unfold State.cycleZone
  split
  · exact hs.boundary z
  · exact hs.setZone ⟨rfl, rfl⟩

theorem StoreSound.beginCycle {s : State} (hs : StoreSound s) : StoreSound s.beginCycle := by
  have applied : StoreSound s.applyDevice := by
    unfold State.applyDevice
    split
    · exact hs.of_same rfl rfl
    · exact hs
  exact applied.of_same rfl rfl

theorem StoreSound.cycleEvent {s : State} (hs : StoreSound s) (e : CycleEvent) : StoreSound (s.cycleEvent e) := by
  cases e with
  | start => exact hs.beginCycle
  | boundary z => exact hs.cycleZone z
  | expiry => exact hs.loseLink
  | hold z => exact hs.holdForLink z

theorem StoreSound.startCycle {s : State} (hs : StoreSound s) (order : List CycleEvent) :
    StoreSound (s.startCycle order) := by
  have events : StoreSound ((s.cycleOrder order).foldl State.cycleEvent s) :=
    List.foldlRecOn _ _ hs fun _ h e _ => h.cycleEvent e
  exact events.startTick 0

theorem StoreSound.judgeZone {s : State} (hs : StoreSound s) (z : ZoneId) (g : GuardEntry) (k : Nat) (reading : Int) :
    StoreSound (s.judgeZone z g k reading) := by
  have counted : ∀ e : Excursions, StoreSound (s.setZone z { s.zone z with exc := e }) :=
    fun _ => hs.setZone ⟨rfl, rfl⟩
  unfold State.judgeZone
  dsimp only
  split
  · exact counted _
  split
  · exact (counted _).trip z _ _
  · exact counted _

theorem StoreSound.evaluateZone {s : State} (hs : StoreSound s) (o : Offer) (z : ZoneId) :
    StoreSound (s.evaluateZone o z) := by
  unfold State.evaluateZone
  repeat' split
  · exact hs
  · exact hs
  · exact hs.judgeZone z _ _ _
  · exact hs.trip z _ _
  · exact hs

theorem StoreSound.handleReading {s : State} (hs : StoreSound s) (i : SensorId) (code : Nat) :
    StoreSound (s.handleReading i code) := by
  have stored : StoreSound (s.setSensor i ((s.sensor i).complete code)) := hs.of_same rfl rfl
  unfold State.handleReading
  refine List.foldlRecOn _ _ ?_ fun _ h z _ => h.evaluateZone _ z
  split
  · exact stored.submit _
  · exact stored

theorem StoreSound.nextConversion {s : State} (hs : StoreSound s) (index : Nat) (order : List SensorId) :
    StoreSound (s.nextConversion index order) := by
  unfold State.nextConversion
  split
  · exact hs.of_same rfl rfl
  · exact (hs.takePending order).of_same rfl rfl

theorem StoreSound.assertStop {s : State} (hs : StoreSound s) : StoreSound s.assertStop := by
  have asserted : StoreSound { s with stop := { asserted := true, lowCount := 0, highCount := 0 } } :=
    hs.of_same rfl rfl
  exact (asserted.tripAll _).submit _

/-! ## The events -/

theorem execRetry_storeSound {seq kind : Byte} {payload : List Byte} {s t : State}
    (h : execRetry seq kind payload s = .next t) (hs : StoreSound s) : StoreSound t := by
  unfold execRetry at h
  refine storeSound_linkFree.carryOut (fun u hu => ?_) h hs
  split
  · exact storeSound_linkFree.serve_payload _ _ _ hu
  · exact hu

theorem execUnknownKind_storeSound {seq kind : Byte} {payload : List Byte} {s t : State}
    (h : execUnknownKind seq kind payload s = .next t) (hs : StoreSound s) : StoreSound t := by
  unfold execUnknownKind at h
  refine storeSound_linkFree.carryOut (fun u hu => ?_) h hs
  split
  · exact hu
  · exact storeSound_linkFree.serve_payload _ _ _ hu

theorem execGoodFrame_storeSound {seq kind : Byte} {payload : List Byte} {s t : State}
    (h : execGoodFrame seq kind payload s = .next t) (hs : StoreSound s) : StoreSound t := by
  unfold execGoodFrame at h
  refine storeSound_linkFree.carryOut (fun u hu => ?_) h hs
  split
  · exact hu.hunt.goodFrame _
  · exact hu

theorem execFrameCrc_storeSound {s t : State}
    (h : execFrameCrc s = .next t) (hs : StoreSound s) : StoreSound t := by
  unfold execFrameCrc at h
  refine storeSound_linkFree.carryOut (fun u hu => ?_) h hs
  exact hu.hunt.countLoss _

theorem execFrameLength_storeSound {s t : State}
    (h : execFrameLength s = .next t) (hs : StoreSound s) : StoreSound t := by
  unfold execFrameLength at h
  refine storeSound_linkFree.carryOut (fun u hu => ?_) h hs
  exact hu.hunt.countLoss _

theorem execFrameGap_storeSound {s t : State}
    (h : execFrameGap s = .next t) (hs : StoreSound s) : StoreSound t := by
  unfold execFrameGap at h
  refine storeSound_linkFree.carryOut (fun u hu => ?_) h hs
  split
  · exact hu
  · exact hu.hunt.countLoss _

theorem execSilenceTimerExpiry_storeSound {order : List Nat} {s t : State}
    (h : execSilenceTimerExpiry order s = .next t) (hs : StoreSound s) : StoreSound t := by
  unfold execSilenceTimerExpiry at h
  refine storeSound_linkFree.carryOut (fun u hu => ?_) h hs
  split
  · exact hu
  · exact hu.loseLink.holdZones _

theorem execGoBack_storeSound {s t : State} (h : execGoBack s = .next t) (hs : StoreSound s) : StoreSound t := by
  unfold execGoBack at h
  refine storeSound_linkFree.carryOut (fun u hu => ?_) h hs
  dsimp only
  split
  · exact hu
  · exact hu.of_same rfl rfl

theorem execTick_storeSound {s t : State} (h : execTick s = .next t) (hs : StoreSound s) : StoreSound t := by
  unfold execTick at h
  refine storeSound_linkFree.carryOut (fun u hu => ?_) h hs
  split
  · exact hu
  · exact hu.startTick _

theorem execCycleStart_storeSound {order : List CycleEvent} {s t : State}
    (h : execCycleStart order s = .next t) (hs : StoreSound s) : StoreSound t := by
  unfold execCycleStart at h
  refine storeSound_linkFree.carryOut (fun u hu => ?_) h hs
  split
  · exact hu.startCycle _
  · exact hu

theorem execConversionCompletion_storeSound {code : BitVec 12} {order : List Nat} {s t : State}
    (h : execConversionCompletion code order s = .next t) (hs : StoreSound s) : StoreSound t := by
  unfold execConversionCompletion at h
  refine storeSound_linkFree.carryOut (fun u hu => ?_) h hs
  repeat' split
  · exact hu
  · exact hu
  · exact (hu.handleReading _ _).nextConversion _ _

theorem execStopSample_storeSound {high : Bool} {s t : State}
    (h : execStopSample high s = .next t) (hs : StoreSound s) : StoreSound t := by
  unfold execStopSample at h
  refine storeSound_linkFree.carryOut (fun u hu => ?_) h hs
  dsimp only
  repeat' split
  · exact hu.assertStop
  all_goals exact hu.of_same rfl rfl

theorem execReceivedByte_storeSound {b : Byte} {s t : State}
    (h : execReceivedByte b s = .next t) (hs : StoreSound s) : StoreSound t := by
  unfold execReceivedByte at h
  refine storeSound_linkFree.carryOut (fun u hu => ?_) h hs
  dsimp only
  repeat' split
  · exact hu.of_same rfl rfl
  · exact hu
  · exact hu.collect _

theorem execFrameSent_storeSound {s t : State} (h : execFrameSent s = .next t) (hs : StoreSound s) :
    StoreSound t := by
  cases h
  exact StoreSound.endFrame (storeSound_linkFree s.wake_sameButLink hs)

theorem execSoftReset_storeSound {s t : State} (h : execSoftReset s = .next t) (hs : StoreSound s) :
    StoreSound t := by
  have woken : StoreSound s.wake := storeSound_linkFree s.wake_sameButLink hs
  cases h
  split
  · exact woken.softResetAll
  · exact woken

theorem execHardReset_storeSound {cause : ResetCause} {baud1 baud0 : Bool} {s t : State}
    (h : execHardReset cause baud1 baud0 s = .next t) : StoreSound t := by
  cases h
  exact (storeSound_afterHardReset (rateOf baud1 baud0) (startCause cause)).of_same rfl rfl

/-! ## Every row -/

/-- Each row of the table keeps the program store: a request row as its block does, an event as its effect does. -/
theorem StoreSound.exec {c : Instr} {s t : State} (h : Machine.exec c s = .next t) (hs : StoreSound s) :
    StoreSound t := by
  have request {block : State → Answer} {f : WireFrame} {ok : Bool}
      (hc : Machine.exec c s = s.carryOut (·.serve f ok block)) (hb : ∀ u, StoreSound u → StoreSound (block u).2) :
      StoreSound t := storeSound_linkFree.request hb (hc ▸ h) hs
  cases c with
  | ping | identify => exact request rfl fun _ hu => hu
  | restart => exact request rfl blockRestart_storeSound
  | ackReports => exact request rfl (blockAckReports_storeSound _)
  | allStop => exact request rfl blockAllStop_storeSound
  | deviceSet => exact request rfl (blockDeviceSet_storeSound _)
  | deviceGet => exact request rfl (blockDeviceGet_storeSound _)
  | deviceCommit => exact request rfl blockDeviceCommit_storeSound
  | progOpen => exact request rfl (blockProgOpen_storeSound _)
  | progAppend => exact request rfl (blockProgAppend_storeSound _)
  | progSeal => exact request rfl (blockProgSeal_storeSound _)
  | progDelete => exact request rfl (blockProgDelete_storeSound _)
  | progInfo => exact request rfl fun _ hu => onSlot_keeps hu fun _ => hu
  | progRead => exact request rfl (blockProgRead_storeSound _)
  | zoneStart => exact request rfl (blockZoneStart_storeSound _)
  | zoneAbort => exact request rfl (blockZoneAbort_storeSound _)
  | zonePause => exact request rfl (blockZonePause_storeSound _)
  | zoneResume => exact request rfl (blockZoneResume_storeSound _)
  | zoneStep => exact request rfl (blockZoneStep_storeSound _)
  | zoneSkip => exact request rfl (blockZoneSkip_storeSound _)
  | zoneTrip => exact request rfl (blockZoneTrip_storeSound _)
  | zoneClearTrip => exact request rfl (blockZoneClearTrip_storeSound _)
  | zoneStatus => exact request rfl fun _ hu => onZone_keeps hu fun _ => hu
  | zoneSetParam => exact request rfl (blockZoneSetParam_storeSound _)
  | zoneGetParam => exact request rfl (blockZoneGetParam_storeSound _)
  | zoneCommit => exact request rfl (blockZoneCommit_storeSound _)
  | zoneDiscard => exact request rfl (blockZoneDiscard_storeSound _)
  | sensorSet => exact request rfl (blockSensorSet_storeSound _)
  | sensorRead => exact request rfl fun _ hu => onSensor_keeps hu fun _ => hu
  | scanSet => exact request rfl (blockScanSet_storeSound _)
  | scanGet => exact request rfl fun _ hu => hu
  | retry => exact execRetry_storeSound h hs
  | unknownKind => exact execUnknownKind_storeSound h hs
  | goodFrame => exact execGoodFrame_storeSound h hs
  | frameCrc => exact execFrameCrc_storeSound h hs
  | frameLength => exact execFrameLength_storeSound h hs
  | frameGap => exact execFrameGap_storeSound h hs
  | silenceTimerExpiry => exact execSilenceTimerExpiry_storeSound h hs
  | goBack => exact execGoBack_storeSound h hs
  | tick => exact execTick_storeSound h hs
  | cycleStart => exact execCycleStart_storeSound h hs
  | conversionCompletion => exact execConversionCompletion_storeSound h hs
  | stopSample => exact execStopSample_storeSound h hs
  | receivedByte => exact execReceivedByte_storeSound h hs
  | frameSent => exact execFrameSent_storeSound h hs
  | softReset => exact execSoftReset_storeSound h hs
  | hardReset => exact execHardReset_storeSound h

/-- Every step keeps the program store: an idle step touches the link alone. -/
theorem StoreSound.step {s t : State} (h : Machine.step s = .next t) (hs : StoreSound s) : StoreSound t := by
  unfold Machine.step at h
  split at h
  · cases h
    exact hs.of_same rfl rfl
  · next rest _ =>
    have dequeued : StoreSound { s with pending := rest } := hs.of_same rfl rfl
    exact dequeued.exec h

/-- Settles O57: pool and use counts are kept together, row by row. -/
theorem stepsConserveTheProgramStore : Obligations.StepsConserveTheProgramStore :=
  fun _ _ h pool uses => StoreSound.step h ⟨pool, uses⟩

end Sys2Proof.Machine
end

section
/-!
The program requests (R6 to R9, R13 to R16): each either only answers, or changes one slot and the free count.
-/

namespace Sys2Proof.Machine

/-- The command is answered, and changes the program store alone: what it leaves is the store of a state. -/
def StoreAnswers (c : Instr) (s : State) (f : WireFrame) (payload : List Byte) (u : State) : Prop :=
  ∃ t, exec c s = .next t ∧ Answered s t f payload ∧ SameReports s t ∧ t.store = u.store ∧ SameButStore s t

/-- A program request whose block changes the store alone. -/
theorem storeAnswers_of_block {c : Instr} {s u : State} {f : WireFrame} {ok : Bool} {payload : List Byte}
    {block : State → Answer} (h : Executes s f) (hc : exec c s = s.carryOut (·.serve f ok block)) (hok : ok = true)
    (hb : block s.wake.takeFrame = (payload, u)) (hu : u = { s.wake.takeFrame with store := u.store }) :
    StoreAnswers c s f payload u := by
  have link : u.link = s.wake.takeFrame.link := by rw [hu]
  refine ⟨_, exec_of_block h hc hok, ?_⟩
  rw [hb]
  refine ⟨answered_of_same link, sameReports_of_block link, rfl, ?_⟩
  rw [hu]
  simp [SameButStore, SamePlant]

/-- The store of another state, slot by slot. -/
theorem State.slot_of_store {s t : State} (h : t.store = s.store) (k : SlotId) : t.slot k = s.slot k :=
  ((s.store_eq_iff t).1 h).2 k

/-! ## PROG_OPEN and PROG_DELETE -/

/-- The two requests that empty a slot, by the state they leave it in (R6, R14). -/
theorem emptying_of_block {c : Instr} {s : State} {f : WireFrame} {ok : Bool} {block : State → Answer} {k : SlotId}
    {st : SlotState} (h : Executes s f) (hc : exec c s = s.carryOut (·.serve f ok block)) (hok : ok = true)
    (hb : ∀ u : State, block u =
      if 0 < (u.slot k).useCount then refuse (.inUse (u.slot k).useCount) u
      else (Status.ok.bytes ++ be16 (u.emptySlot k st).store.free, u.emptySlot k st)) :
    ((s.slot k).useCount = 0 →
      ∃ t, exec c s = .next t
        ∧ Answered s t f (0x00 :: be16 (s.store.free + (s.slot k).segs.length)) ∧ SameReports s t
        ∧ t.store.free = s.store.free + (s.slot k).segs.length
        ∧ t.slot k = { state := st, segs := [], useCount := 0, sealResult := none }
        ∧ (∀ j, j ≠ k → t.slot j = s.slot j) ∧ SameButStore s t)
    ∧ (0 < (s.slot k).useCount → OnlyAnswers c s f [0x14, byte (s.slot k).useCount]) := by
  refine ⟨fun unused => ?_, fun used => ?_⟩
  · have emptied : block s.wake.takeFrame = (0x00 :: be16 (s.store.free + (s.slot k).segs.length),
        s.wake.takeFrame.emptySlot k st) := by
      rw [hb]
      simp [unused, Status.bytes]
    obtain ⟨t, step, answered, reports, store, rest⟩ := storeAnswers_of_block h hc hok emptied rfl
    refine ⟨t, step, answered, reports, by simp [store], ?_, fun j hj => ?_, rest⟩
    · simp [State.slot_of_store store, unused]
    · simp [State.slot_of_store store, hj]
  · refine onlyAnswers_of_block h hc hok ?_
    rw [hb]
    simp [used, refuse, Status.bytes]

/-- Settles O12: the two requests empty a slot alike. -/
theorem openAndDeleteEmptyTheSlot : Obligations.OpenAndDeleteEmptyTheSlot := by
  intro s q k delete
  cases delete <;> intro c f h
  · refine emptying_of_block (ok := true) (block := blockProgOpen [byte k.val]) h rfl rfl fun u => ?_
    simp [blockProgOpen, onSlot]
  · refine emptying_of_block (ok := true) (block := blockProgDelete [byte k.val]) h rfl rfl fun u => ?_
    simp [blockProgDelete, onSlot]

/-! ## PROG_APPEND -/

/-- PROG_APPEND of a slot's number and whole segments, by what R7 and R8 ask for. -/
theorem blockProgAppend_eq (u : State) (k : SlotId) (segs : List Seg) :
    blockProgAppend (byte k.val :: segs.flatMap Seg.bytes) u =
      if (u.slot k).state ≠ .opened then refuse (.badState (u.slot k).state.code) u
      else if segs.length ≤ u.store.free ∧ (u.slot k).segs.length + segs.length ≤ 255 then
        (0x00 :: byte ((u.slot k).segs.length + segs.length) :: be16 (u.store.free - segs.length),
          u.appendSegs k segs)
      else refuse (.noSpace u.store.free (u.slot k).segs.length) u := by
  simp only [blockProgAppend, onSlot, nibbleAt_byte_zero, appendSegs_cons]
  split
  · rfl
  · by_cases fits : segs.length ≤ u.store.free ∧ (u.slot k).segs.length + segs.length ≤ 255
    · have fits' : ¬(u.store.free < segs.length ∨ Config.maxProgram < (u.slot k).segs.length + segs.length) := by
        simp only [Config.maxProgram]
        omega
      simp [fits, fits', Status.bytes]
    · have fits' : u.store.free < segs.length ∨ Config.maxProgram < (u.slot k).segs.length + segs.length := by
        simp only [Config.maxProgram]
        omega
      simp [fits, fits']

/-- A payload of one to eight segments has an accepted length (R198). -/
theorem appendLengthOk_segs (b : Byte) {segs : List Seg} (low : 1 ≤ segs.length) (high : segs.length ≤ 8) :
    appendLengthOk (b :: segs.flatMap Seg.bytes) = true := by
  simp only [appendLengthOk, List.length_cons, segBytes_length, decide_eq_true_eq]
  omega

/-- Settles O13, by the rows of R7 on the segments that the payload carries. -/
theorem appendAddsTheCarriedSegments : Obligations.AppendAddsTheCarriedSegments := by
  intro s q k segs p f fits h low high
  have length := appendLengthOk_segs (byte k.val) low high
  have block := blockProgAppend_eq s.wake.takeFrame k segs
  refine ⟨fun notOpen => ?_, fun opened full => ?_, fun opened room => ?_⟩
  · refine onlyAnswers_of_block (block := blockProgAppend p) h rfl length (block.trans ?_)
    simp [notOpen, refuse, Status.bytes]
  · refine onlyAnswers_of_block (block := blockProgAppend p) h rfl length (block.trans ?_)
    simp [opened, show ¬(segs.length ≤ s.store.free ∧ (s.slot k).segs.length + segs.length ≤ 255) from full, refuse,
      Status.bytes]
  · have appended : blockProgAppend p s.wake.takeFrame =
        (0x00 :: byte ((s.slot k).segs.length + segs.length) :: be16 (s.store.free - segs.length),
          s.wake.takeFrame.appendSegs k segs) := by
      refine block.trans ?_
      simp [opened, show segs.length ≤ s.store.free ∧ (s.slot k).segs.length + segs.length ≤ 255 from room]
    obtain ⟨t, step, answered, reports, store, rest⟩ := storeAnswers_of_block (c := .progAppend q p) h
      rfl length appended rfl
    refine ⟨t, step, answered, reports, by simp [store], ?_, fun j hj => ?_, rest⟩
    · simp [State.slot_of_store store]
    · simp [State.slot_of_store store, hj]

/-! ## PROG_SEAL -/

/-- PROG_SEAL of an OPEN slot whose program fails the check: the failure becomes the seal result (R9). -/
theorem blockProgSeal_failed {u : State} {k : SlotId} {r : SealResult} (opened : (u.slot k).state = .opened)
    (check : sealCheck (u.slot k).segs = some r) :
    blockProgSeal [byte k.val] u =
      ([0x1B, byte r.index, r.reason.code], u.setSlot k { u.slot k with sealResult := some r }) := by
  simp [blockProgSeal, onSlot, opened, check, Status.bytes]

/-- PROG_SEAL of an OPEN slot whose program passes the check: the slot becomes SEALED (R13). -/
theorem blockProgSeal_passed {u : State} {k : SlotId} (opened : (u.slot k).state = .opened)
    (check : sealCheck (u.slot k).segs = none) :
    blockProgSeal [byte k.val] u =
      ([0x00, byte (u.slot k).segs.length], u.setSlot k { u.slot k with state := .sealed, sealResult := none }) := by
  simp [blockProgSeal, onSlot, opened, check, Status.bytes]

/-- Settles O14, by the check's outcome. -/
theorem sealRecordsItsOutcome : Obligations.SealRecordsItsOutcome := by
  intro s q k p f h
  have recorded {payload : List Byte} {x : Slot}
      (hb : blockProgSeal p s.wake.takeFrame = (payload, s.wake.takeFrame.setSlot k x)) :=
    storeAnswers_of_block (c := .progSeal q p) (ok := true) h rfl rfl hb rfl
  refine ⟨fun notOpen => ?_, fun opened => ?_⟩
  · refine onlyAnswers_of_block (ok := true) (block := blockProgSeal p) h rfl rfl ?_
    simp [p, blockProgSeal, onSlot, notOpen, refuse, Status.bytes]
  cases check : sealCheck (s.slot k).segs with
  | some r =>
    obtain ⟨t, step, answered, reports, store, rest⟩ := recorded (blockProgSeal_failed opened check)
    refine ⟨t, step, answered, reports, by simp [store], ?_, fun j hj => ?_, rest⟩
    · simp [State.slot_of_store store, opened]
    · simp [State.slot_of_store store, hj]
  | none =>
    obtain ⟨t, step, answered, reports, store, rest⟩ := recorded (blockProgSeal_passed opened check)
    refine ⟨t, step, answered, reports, by simp [store], ?_, fun j hj => ?_, rest⟩
    · simp [State.slot_of_store store]
    · simp [State.slot_of_store store, hj]

/-! ## PROG_INFO and PROG_READ -/

/-- Settles O16: both blocks hand back the state as it was. -/
theorem infoAndReadOnlyAnswer : Obligations.InfoAndReadOnlyAnswer := by
  intro s q k x
  refine ⟨fun h => ?_, fun first count => ?_⟩
  · refine onlyAnswers_of_block (ok := true) (block := blockProgInfo [byte k.val]) h rfl rfl ?_
    cases hr : x.sealResult <;> simp_all [x, blockProgInfo, onSlot, Status.bytes, sealBytes]
  · intro p h
    have one : nat8 p 1 = first.toNat := rfl
    have two : nat8 p 2 = count.toNat := rfl
    have slot : nibbleAt p 0 = some k := nibbleAt_byte_zero k _
    refine ⟨fun outside => ?_, fun low high beyond => ?_, fun low high within => ?_⟩
    all_goals
      refine onlyAnswers_of_block (ok := true) (block := blockProgRead p) h rfl rfl ?_
      simp only [blockProgRead, onSlot, slot, one, two, Config.maxCarried, State.takeFrame_slot, State.wake_slot]
    · have : count.toNat < 1 ∨ 8 < count.toNat := outside.imp_left (by rintro rfl; decide)
      rw [if_pos this]
      rfl
    · rw [if_neg (show ¬(count.toNat < 1 ∨ 8 < count.toNat) by omega), if_pos beyond]
      rfl
    · rw [if_neg (show ¬(count.toNat < 1 ∨ 8 < count.toNat) by omega), if_neg (Nat.not_lt.2 within)]
      simp [Status.bytes, byte, x]

end Sys2Proof.Machine
end

section
/-!
The resets (R20, R21, R194 to R196): what each leaves of every record, and that the part after reset meets the
invariants that the steps keep.
-/

namespace Sys2Proof.Machine

/-! ## The soft reset -/

theorem State.sendsRestartReply_iff (s : State) : s.sendsRestartReply = true ↔ SendsRestartReply s := by
  unfold State.sendsRestartReply SendsRestartReply
  cases s.link.tx <;> simp

theorem exec_softReset_waiting {s : State} (h : ¬SendsRestartReply (chosen s)) :
    exec .softReset s = .next (chosen s) := by
  rw [chosen_eq] at h ⊢
  rw [← State.sendsRestartReply_iff] at h
  simp [exec, execSoftReset, h]

/-- The moment at which the RESTART reply has left is the soft reset, by either of its names (R195). -/
theorem exec_softReset_now {s : State} (h : SendsRestartReply (chosen s)) :
    exec .softReset s = .next s.wake.softResetAll ∧ exec .frameSent s = .next s.wake.softResetAll := by
  rw [chosen_eq, ← State.sendsRestartReply_iff] at h
  simp [exec, execSoftReset, execFrameSent, State.endFrame, h]

/-- Settles O42, record by record of the soft reset at the moment the RESTART reply has left. -/
theorem softResetRestoresTheBlocks : Obligations.SoftResetRestoresTheBlocks := by
  refine ⟨fun s h => exec_softReset_waiting h, fun s h => ?_⟩
  obtain ⟨soft, sent⟩ := exec_softReset_now h
  refine ⟨s.wake.softResetAll, soft, sent, ?_, fun k => ?_, fun z => ?_, fun i => ?_, rfl, rfl, rfl, rfl, ?_, rfl⟩
  · simp
  · simp
  · by_cases tripped : (s.zone z).zr.state = .tripped <;>
      simp [Zone.softReset, ZoneRec.softReset, Control.reset, FrameRec.cut, level_false, tripped]
  · simp [Sensor.softReset]
  · by_cases stopped : s.device.live.timeout = 0 <;>
      simp [State.softResetAll, Link.softReset, Link.reset, silenceFrom, stopped]

/-! ## The hard reset -/

/-- Settles O43, record by record. -/
theorem hardResetSetsEveryRecord : Obligations.HardResetSetsEveryRecord := by
  intro s cause baud1 baud0
  have slot := State.afterHardReset_slot (rateOf baud1 baud0) (startCause cause)
  have zone := State.afterHardReset_zone (rateOf baud1 baud0) (startCause cause)
  have sensor := State.afterHardReset_sensor (rateOf baud1 baud0) (startCause cause)
  refine ⟨_, rfl, rfl, slot, fun z => ?_, sensor, rfl, rfl, rfl, rfl, rfl, rfl, ?_, rfl⟩
  · have reset := zone z
    unfold State.zone at reset ⊢
    dsimp only
    rw [reset]
    exact ⟨rfl, rfl, rfl, rfl, rfl, rfl, rfl, rfl, rfl, rfl, rfl⟩
  · cases cause <;> cases baud1 <;> cases baud0 <;> rfl

/-! ## The invariants after reset -/

/-- The report queue after a reset holds STARTED alone, NEW (R194, R196). -/
theorem reset_reports : State.reset.link.reports = [⟨0, .started .powerOn, .fresh⟩] := rfl

theorem windowKept_reset : WindowKept State.reset := by
  have only : ∀ older q newer, State.reset.link.reports = older ++ q :: newer →
      q = ⟨0, .started .powerOn, .fresh⟩ ∧ newer = [] := fun older q newer h => by
    rw [reset_reports, List.singleton_eq_append_iff] at h
    simp_all
  refine ⟨fun older q newer h => ?_, fun older q newer h _ => ?_, by decide, fun _ => by decide, fun f w h => ?_⟩
  · obtain ⟨rfl, rfl⟩ := only older q newer h
    rfl
  · obtain ⟨-, rfl⟩ := only older q newer h
    simp
  · cases h

theorem scanConsistent_reset : ScanConsistent State.reset := by
  refine ⟨by decide, fun k h => (by cases h), fun i => ?_⟩
  rw [show State.reset.sensor i = .reset from State.afterHardReset_sensor _ _ i]
  decide +revert

/-- Settles O60: every zone, slot and sensor is at its reset value, on which each invariant is evaluated. -/
theorem resetMeetsTheInvariants : Obligations.ResetMeetsTheInvariants := by
  have zone : ∀ z, State.reset.zone z = .reset := State.afterHardReset_zone _ _
  obtain ⟨pool, uses⟩ := storeSound_afterHardReset .baud57600 .powerOn
  have causes : CausesExactlyWhenHeld State.reset := fun z => by rw [zone z]; decide
  have records : RecordsExactlyWhenTripped State.reset := fun z => by rw [zone z]; decide
  have stopped : NoneActiveWhileStopped State.reset := fun _ z => by rw [zone z]; rfl
  have outputs : OutputsOffWhenInactive State.reset := fun z _ => by rw [zone z]; decide
  have restricted : RestrictedOnlyIdle State.reset := fun z => by rw [zone z]; decide
  have sound : LiveRecordsSound State.reset := fun z => by
    rw [zone z]
    exact ⟨⟨by decide, rfl⟩, fun h => by cases h⟩
  have trims : TrimFlagsAgree State.reset := fun z => by rw [zone z]; rfl
  have queues : QueuesBounded State.reset := by unfold QueuesBounded; decide
  have txd : TxdFollows State.reset := ⟨fun _ => rfl, fun _ h => (by cases h), fun _ _ h => (by cases h)⟩
  have silence : SilenceStoppedWhenLost State.reset := fun h => by cases h
  have cycle : CycleInRange State.reset := by unfold CycleInRange; decide
  exact ⟨pool, uses, causes, records, stopped, outputs, restricted, sound, trims, queues, windowKept_reset, txd,
    silence, scanConsistent_reset, cycle⟩

end Sys2Proof.Machine
end

section
/-!
ZONE_START (R50, R51): a start that no row refuses, and what it leaves.
-/

namespace Sys2Proof.Machine

/-- A zone's own data after an accepted START (R51, R85). -/
def Zone.started (x : Zone) (k : SlotId) (setpoint : Int) : Zone :=
  { x with zr := x.zr.start k setpoint, exc := ⟨0, 0⟩, ctl := { x.ctl with acc := 0 } }

section
variable (s : State) (z : ZoneId) (k : SlotId) (setpoint : Int)

theorem State.startZone_eq : s.startZone z k setpoint =
    ((s.setZone z ((s.zone z).started k setpoint)).useProgram k).reportState z .idle .start := rfl

theorem State.startZone_zone (y : ZoneId) :
    (s.startZone z k setpoint).zone y = if y = z then (s.zone z).started k setpoint else s.zone y := by
  simp [State.startZone_eq]

theorem State.startZone_slot (j : SlotId) :
    (s.startZone z k setpoint).slot j =
      if j = k then { s.slot k with useCount := (s.slot k).useCount + 1 } else s.slot j := by
  simp [State.startZone_eq]

theorem State.startZone_link :
    (s.startZone z k setpoint).link =
      (stateReports z ((s.zone z).started k setpoint) .idle .start).foldl Link.submit s.link := by
  simp [State.startZone_eq, State.reportState_link_eq]

/-- What a start leaves as it was: all but its zone, its slot's use count and the report queue. -/
theorem State.startZone_keeps :
    (s.startZone z k setpoint).store.free = s.store.free ∧ (s.startZone z k setpoint).device = s.device
    ∧ SamePlant s (s.startZone z k setpoint) ∧ (s.startZone z k setpoint).pending = s.pending := by
  simp [State.startZone_eq, SamePlant]

end

/-- No row of R50 refuses a start on an IDLE, unrestricted zone and a SEALED slot whose sensors are ready. -/
theorem State.startFault_accepted {s : State} {z : ZoneId} {k : SlotId} (idle : (s.zone z).zr.state = .idle)
    (released : s.stop.asserted = false) (isSealed : (s.slot k).state = .sealed)
    (unrestricted : (s.zone z).restricted = false) (ready : FeedbackReady s z k)
    (guards : ∀ g ∈ (s.zone z).live.guards, Usable s g.sensor) : s.startFault z k = none := by
  obtain ⟨present, usable⟩ := ready
  have fed : ¬(hasClosedLoop (s.slot k).segs = true ∧ (s.zone z).live.feedback = none) := by
    rw [hasClosedLoop_iff]
    exact fun h => present h.1 h.2
  have sound : s.feedbackBroken z = false := by
    rw [Bool.eq_false_iff, ne_eq, State.feedbackBroken_iff]
    exact fun ⟨i, hi, broken⟩ => broken (usable i hi)
  simp [State.startFault, idle, released, isSealed, unrestricted, fed, sound, State.guardNotReady_none guards]

/-- The setpoint with which ZONE_START begins: the carried one, or the feedback sensor's filtered value (R51). -/
def startSetpoint (s : State) (z : ZoneId) (flags hi lo : Byte) : Int :=
  if flags.getLsbD 0 then (hi ++ lo).toInt else s.feedbackValue z

theorem startSetpoint_carried {flags : Byte} (h : flags.getLsbD 0 = true) (s : State) (z : ZoneId) (hi lo : Byte) :
    startSetpoint s z flags hi lo = (hi ++ lo).toInt := if_pos h

theorem startSetpoint_own {flags : Byte} (h : flags.getLsbD 0 = false) (s : State) (z : ZoneId) (hi lo : Byte) :
    startSetpoint s z flags hi lo = s.feedbackValue z := if_neg (by rw [h]; decide)

theorem blockZoneStart_accepted {s : State} {z : ZoneId} {k : SlotId} (accepted : s.startFault z k = none)
    (flags hi lo : Byte) :
    blockZoneStart [byte z.val, byte k.val, flags, hi, lo] s =
      ([0x00], s.startZone z k (startSetpoint s z flags hi lo)) := by
  have carried : int16 [byte z.val, byte k.val, flags, hi, lo] 3 = (hi ++ lo).toInt := int16_cons hi lo []
  have flag : bitAt [byte z.val, byte k.val, flags, hi, lo] 2 0 = flags.getLsbD 0 := rfl
  simp [blockZoneStart, onZone, accepted, carried, flag, startSetpoint, Status.bytes]

/-- Settles O17: no row of R50 refuses, and the accepted start is read field by field. -/
theorem startSetsTheZoneUp : Obligations.StartSetsTheZoneUp := by
  intro s q z k flags hi lo p f x h idle released isSealed unrestricted ready guards
  have accepted : s.wake.takeFrame.startFault z k = none :=
    State.startFault_accepted idle released isSealed unrestricted ready guards
  have step := exec_of_block (c := .zoneStart q p) (ok := true) (block := blockZoneStart p) h rfl rfl
  rw [show blockZoneStart p s.wake.takeFrame = _ from blockZoneStart_accepted accepted flags hi lo] at step
  generalize hsp : startSetpoint s.wake.takeFrame z flags hi lo = setpoint at step
  have link := s.wake.takeFrame.startZone_link z k setpoint
  obtain ⟨free, device, ⟨sensors, scan, stop, modulator⟩, pending⟩ := s.wake.takeFrame.startZone_keeps z k setpoint
  refine ⟨_, setpoint, step, answered_of_submitted link, fun carried => ?_, fun own i fed => ?_, fun own unfed => ?_,
    ⟨?_, fun y hy => ?_, ?_, ?_, ?_⟩, ?_, fun j => ?_, ?_⟩
  · rw [← hsp, startSetpoint_carried carried]
  · rw [← hsp, startSetpoint_own own, State.feedbackValue, State.takeFrame_zone, State.wake_zone, fed]
    rfl
  · rw [← hsp, startSetpoint_own own, State.feedbackValue, State.takeFrame_zone, State.wake_zone, unfed]
  · simp [State.startZone_zone, Zone.started, ZoneRec.start, x]
  · simp [State.startZone_zone, hy]
  · simpa using device
  · simpa [SamePlant] using ⟨sensors, scan, stop, modulator⟩
  · simpa using pending
  · simpa using free
  · simp [State.startZone_slot]
  · have reports := submitted_of_block (f := f) (p := [0x00]) link
    cases selected : (s.zone z).live.reports.zoneState <;>
      simpa [stateReports, Zone.started, ZoneRec.start, x, selected] using reports

end Sys2Proof.Machine
end

section
/-!
The seal check (R3, R9 to R13): segment by segment it finds what the statements call the first failure, and a program
without one is a sound program.
-/

namespace Sys2Proof.Machine

/-! ## The field checks of a segment (R10) -/

theorem Seg.durationBad_eq_false (g : Seg) :
    g.durationBad = false ↔ ∀ d, g.duration? = some d → 1 ≤ d ∧ d ≤ 1048575 := by
  unfold Seg.durationBad Config.maxDuration
  cases g.duration? with
  | none => simp
  | some d => simp; omega

theorem Seg.bandBad_eq_false (g : Seg) : g.bandBad = false ↔ ∀ b, g.band? = some b → 1 ≤ b ∧ b ≤ 32767 := by
  unfold Seg.bandBad
  cases g.band? with
  | none => simp
  | some b => simp; omega

theorem Seg.missesField_iff {g : Seg} {k : SegKind} (h : g.kind = some k) :
    g.missesField k = true ↔ LacksDuration g := by
  cases k <;> simp [Seg.missesField, LacksDuration, h]

/-- A segment of a known kind is sound when no field is missing and none is out of range. -/
theorem soundSegment_iff {g : Seg} {k : SegKind} (h : g.kind = some k) :
    SoundSegment g ↔ g.missesField k = false ∧ g.rangeBad k = false := by
  unfold SoundSegment
  rw [h]
  have duration := g.durationBad_eq_false
  have band := g.bandBad_eq_false
  cases k <;> simp only [Seg.missesField, Seg.rangeBad, PresentInRange, Bool.or_eq_false_iff, duration, band,
    decide_eq_false_iff_not, true_and, and_self]
  case drive => cases g.duration? <;> simp [Config.fullDuty]
  case rep | mark => omega
  case ramp | soak => cases g.duration? <;> simp

/-- The field checks fail for a missing field first, and for one out of range otherwise (R10). -/
theorem Seg.fieldCheck_eq_some (g : Seg) (reason : SealReason) :
    g.fieldCheck = some reason ↔ ¬SoundSegment g ∧ (LacksDuration g → reason = .missingField)
      ∧ (¬LacksDuration g → reason = .fieldRange) := by
  unfold Seg.fieldCheck
  cases h : g.kind with
  | none => simp [SoundSegment, LacksDuration, h, @eq_comm _ reason]
  | some k =>
    rw [soundSegment_iff h, ← Seg.missesField_iff h]
    cases misses : g.missesField k <;> cases bad : g.rangeBad k <;> simp [misses, bad, @eq_comm _ reason]

/-- A segment that is not sound has a reason to fail its field checks. -/
theorem exists_fieldReason (g : Seg) :
    ∃ reason : SealReason, (LacksDuration g → reason = .missingField) ∧ (¬LacksDuration g → reason = .fieldRange) := by
  by_cases lacks : LacksDuration g
  · exact ⟨.missingField, fun _ => rfl, fun present => absurd lacks present⟩
  · exact ⟨.fieldRange, fun l => absurd l lacks, fun _ => rfl⟩

theorem Seg.fieldCheck_eq_none (g : Seg) : g.fieldCheck = none ↔ SoundSegment g := by
  constructor
  · intro h
    by_contra unsound
    obtain ⟨reason, why⟩ := exists_fieldReason g
    have fails := (g.fieldCheck_eq_some reason).2 ⟨unsound, why⟩
    simp [h] at fails
  · intro sound
    cases h : g.fieldCheck with
    | none => rfl
    | some reason => exact absurd sound ((g.fieldCheck_eq_some reason).1 h).1

/-! ## The open REPEATs (R11) -/

section
variable {segs : List Seg} {n : Nat}

theorem opensBefore_rep (h : segs[n]?.bind Seg.kind = some .rep) :
    opensBefore segs (n + 1) = opensBefore segs n ++ [n] := by
  simp [opensBefore, h]

theorem opensBefore_again (h : segs[n]?.bind Seg.kind = some .again) :
    opensBefore segs (n + 1) = (opensBefore segs n).dropLast := by
  simp [opensBefore, h]

theorem opensBefore_other (hr : segs[n]?.bind Seg.kind ≠ some .rep) (ha : segs[n]?.bind Seg.kind ≠ some .again) :
    opensBefore segs (n + 1) = opensBefore segs n := by
  rw [opensBefore]
  split
  · next e => exact absurd e hr
  · next e => exact absurd e ha
  · rfl

/-- A REPEAT that is open before an index stands before it. -/
theorem lt_of_mem_opensBefore {i : Nat} (h : i ∈ opensBefore segs n) : i < n := by
  induction n with
  | zero => simp [opensBefore] at h
  | succ n ih =>
    by_cases hr : segs[n]?.bind Seg.kind = some .rep
    · rw [opensBefore_rep hr, List.mem_append, List.mem_singleton] at h
      rcases h with h | rfl
      · exact Nat.lt_succ_of_lt (ih h)
      · exact Nat.lt_succ_self _
    by_cases ha : segs[n]?.bind Seg.kind = some .again
    · rw [opensBefore_again ha] at h
      exact Nat.lt_succ_of_lt (ih (List.mem_of_mem_dropLast h))
    · rw [opensBefore_other hr ha] at h
      exact Nat.lt_succ_of_lt (ih h)

/-- The innermost open REPEAT stands right before an index only if the segment there is one. -/
theorem rep_of_opensBefore_succ {outer : List Nat} (h : opensBefore segs (n + 1) = outer ++ [n]) :
    segs[n]?.bind Seg.kind = some .rep := by
  by_contra hr
  have absent : n ∉ opensBefore segs n := fun m => Nat.lt_irrefl _ (lt_of_mem_opensBefore m)
  have mem : n ∈ opensBefore segs (n + 1) := by simp [h]
  by_cases ha : segs[n]?.bind Seg.kind = some .again
  · rw [opensBefore_again ha] at mem
    exact absent (List.mem_of_mem_dropLast mem)
  · rw [opensBefore_other hr ha] at mem
    exact absent mem

theorem kindCount_take_succ (k : SegKind) (segs : List Seg) (n : Nat) :
    kindCount k (segs.take (n + 1)) =
      kindCount k (segs.take n) + if segs[n]?.bind Seg.kind = some k then 1 else 0 := by
  unfold kindCount
  rw [List.take_add_one, List.countP_append]
  cases segs[n]? <;> simp

/-- While every AGAIN closes a REPEAT, the open ones are the REPEATs less the AGAINs. -/
theorem opens_balanced_succ
    (h : kindCount .again (segs.take n) + (opensBefore segs n).length = kindCount .rep (segs.take n))
    (closes : segs[n]?.bind Seg.kind = some .again → opensBefore segs n ≠ []) :
    kindCount .again (segs.take (n + 1)) + (opensBefore segs (n + 1)).length
      = kindCount .rep (segs.take (n + 1)) := by
  rw [kindCount_take_succ, kindCount_take_succ]
  by_cases hr : segs[n]?.bind Seg.kind = some .rep
  · rw [opensBefore_rep hr]
    simp [hr]
    omega
  by_cases ha : segs[n]?.bind Seg.kind = some .again
  · have := List.length_pos_iff.2 (closes ha)
    rw [opensBefore_again ha]
    simp [ha]
    omega
  · rw [opensBefore_other hr ha]
    simpa [hr, ha] using h

end

/-! ## The structure check of a segment (R11) -/

/-- The structure check fails as the statements say, for each kind that it judges. -/
theorem structureCheck_eq_error (segs : List Seg) (i : Nat) (g : Seg) (reason : SealReason) :
    structureCheck segs.length i (opensBefore segs i).reverse g = .error reason ↔
      (g.kind = some .fin ∧ i + 1 < segs.length ∧ reason = .endNotLast)
      ∨ (g.kind = some .rep ∧ 3 ≤ (opensBefore segs i).length ∧ reason = .loopTooDeep)
      ∨ (g.kind = some .again ∧ opensBefore segs i = [] ∧ reason = .againWithoutRepeat)
      ∨ (g.kind = some .again ∧ (∃ outer j, opensBefore segs i = outer ++ [j] ∧ j + 1 = i) ∧ reason = .emptyLoop) := by
  unfold structureCheck
  split
  · next h =>
    simp only [h]
    split <;> simp_all [@eq_comm _ reason]
  · next h =>
    simp only [h, List.length_reverse]
    split <;> simp_all [@eq_comm _ reason]
  · next h =>
    rcases List.eq_nil_or_concat (opensBefore segs i) with e | ⟨outer, j, e⟩
    · simp [h, e, @eq_comm _ reason]
    · by_cases body : j + 1 = i <;> simp [h, e, body, @eq_comm _ reason]
  · next h => simp_all

/-- A passed structure check leaves the REPEATs that are open before the next index. -/
theorem structureCheck_eq_ok {segs : List Seg} {i : Nat} {g : Seg} (hg : segs[i]? = some g) {opens : List Nat}
    (h : structureCheck segs.length i (opensBefore segs i).reverse g = .ok opens) :
    opens = (opensBefore segs (i + 1)).reverse := by
  have kind : segs[i]?.bind Seg.kind = g.kind := by rw [hg]; rfl
  unfold structureCheck at h
  split at h
  · next hk =>
    rw [opensBefore_other (by simp [kind, hk]) (by simp [kind, hk])]
    split at h <;> simp_all
  · next hk =>
    rw [opensBefore_rep (by simp [kind, hk])]
    split at h <;> simp_all
  · next hk =>
    rw [opensBefore_again (by simp [kind, hk])]
    rcases List.eq_nil_or_concat (opensBefore segs i) with e | ⟨outer, j, e⟩
    · simp [e] at h
    · simp [e] at h ⊢
      split at h <;> simp_all
  · next hr ha =>
    rw [opensBefore_other (by simp_all) (by simp_all)]
    simp_all

/-- A segment fails as its two checks find, the field checks first. -/
theorem segmentFails_iff {segs : List Seg} {i : Nat} {g : Seg} (hg : segs[i]? = some g) (reason : SealReason) :
    SegmentFails segs i reason ↔ g.fieldCheck = some reason
      ∨ (g.fieldCheck = none ∧ structureCheck segs.length i (opensBefore segs i).reverse g = .error reason) := by
  rw [Seg.fieldCheck_eq_some, Seg.fieldCheck_eq_none, structureCheck_eq_error]
  simp [SegmentFails, hg]

theorem segmentFails_beyond {segs : List Seg} {i : Nat} (h : segs.length ≤ i) (reason : SealReason) :
    ¬SegmentFails segs i reason := by
  rintro ⟨g, hg, -⟩
  simp [List.getElem?_eq_none h] at hg

/-! ## The first failure (R9, R12) -/

/-- Every segment before an index passes its checks. -/
def PassesBefore (segs : List Seg) (i : Nat) : Prop := ∀ j reason, j < i → ¬SegmentFails segs j reason

/-- The first segment that fails gives the failure. -/
theorem firstFault_of_segment {segs : List Seg} {i : Nat} {reason : SealReason} (passed : PassesBefore segs i)
    (fails : ∀ a, SegmentFails segs i a ↔ a = reason) (r : SealResult) :
    FirstFault segs r ↔ r = ⟨reason, i⟩ := by
  constructor
  · rintro (⟨failed, earlier⟩ | ⟨none_fails, -⟩)
    · have index : r.index = i := by
        rcases Nat.lt_trichotomy r.index i with lt | eq | gt
        · exact absurd failed (passed _ _ lt)
        · exact eq
        · exact absurd ((fails reason).2 rfl) (earlier _ _ gt)
      have why : r.reason = reason := (fails _).1 (index ▸ failed)
      rw [← index, ← why]
    · exact absurd ((fails reason).2 rfl) (none_fails _ _)
  · rintro rfl
    exact .inl ⟨(fails reason).2 rfl, passed⟩

theorem endCheck_eq_some (segs : List Seg) (r : SealResult) :
    endCheck segs (opensBefore segs segs.length).reverse = some r ↔ EndFails segs r := by
  rcases List.eq_nil_or_concat segs with rfl | ⟨init, last, rfl⟩
  · simp [endCheck, EndFails, @eq_comm _ r]
  · unfold endCheck EndFails
    generalize opensBefore (init.concat last) (init.concat last).length = opens
    rcases List.eq_nil_or_concat opens with rfl | ⟨outer, i, rfl⟩
    · by_cases fin : last.kind = some .fin <;> simp [fin, @eq_comm _ r]
    · by_cases fin : last.kind = some .fin <;> simp [fin, @eq_comm _ r]

/-- Where every segment passes, the end of the program gives the failure. -/
theorem firstFault_of_end {segs : List Seg} (passed : PassesBefore segs segs.length) (r : SealResult) :
    FirstFault segs r ↔ EndFails segs r := by
  have none_fails : ∀ j reason, ¬SegmentFails segs j reason := fun j reason =>
    (Nat.lt_or_ge j segs.length).elim (passed j reason) (fun h => segmentFails_beyond h reason)
  constructor
  · rintro (⟨failed, -⟩ | ⟨-, ends⟩)
    · exact absurd failed (none_fails _ _)
    · exact ends
  · exact fun ends => .inr ⟨none_fails, ends⟩

/-- The check over the segments from an index on finds the first failure, those before having passed. -/
theorem sealFrom_eq_some {segs : List Seg} (rest before : List Seg) (whole : before ++ rest = segs)
    (passed : PassesBefore segs before.length) (r : SealResult) :
    sealFrom segs rest before.length (opensBefore segs before.length).reverse = some r ↔ FirstFault segs r := by
  induction rest generalizing before with
  | nil =>
    obtain rfl : before = segs := by simpa using whole
    rw [firstFault_of_end passed, sealFrom, endCheck_eq_some]
  | cons g rest ih =>
    have hg : segs[before.length]? = some g := by simp [← whole]
    have fails := segmentFails_iff hg
    rw [sealFrom]
    cases field : g.fieldCheck with
    | some reason =>
      rw [firstFault_of_segment passed (reason := reason) (by simp [fails, field, eq_comm])]
      simp [eq_comm]
    | none =>
      cases place : structureCheck segs.length before.length (opensBefore segs before.length).reverse g with
      | error reason =>
        rw [firstFault_of_segment passed (reason := reason) (by simp [fails, field, place, eq_comm])]
        simp [eq_comm]
      | ok opens =>
        have passes : PassesBefore segs (before ++ [g]).length := fun j reason hj => by
          rw [List.length_append, List.length_singleton, Nat.lt_succ_iff_lt_or_eq] at hj
          rcases hj with lt | rfl
          · exact passed j reason lt
          · simp [fails, field, place]
        have next := ih (before ++ [g]) (by simpa using whole) passes
        rw [List.length_append, List.length_singleton] at next
        simp only [structureCheck_eq_ok hg place]
        exact next

theorem sealCheck_eq_some (segs : List Seg) (r : SealResult) : sealCheck segs = some r ↔ FirstFault segs r :=
  sealFrom_eq_some segs [] rfl (fun _ _ h => absurd h (Nat.not_lt_zero _)) r

/-- A program passes when none of its segments fails and its end does not. -/
theorem sealCheck_eq_none (segs : List Seg) :
    sealCheck segs = none ↔ (∀ i reason, ¬SegmentFails segs i reason) ∧ ∀ r, ¬EndFails segs r := by
  rw [Option.eq_none_iff_forall_ne_some]
  simp only [ne_eq, sealCheck_eq_some]
  constructor
  · intro none_first
    have none_fails : ∀ i reason, ¬SegmentFails segs i reason := fun i => by
      induction i using Nat.strong_induction_on with
      | _ i earlier =>
        exact fun reason failed => none_first ⟨reason, i⟩ (.inl ⟨failed, fun j a lt => earlier j lt a⟩)
    exact ⟨none_fails, fun r ends => none_first r (.inr ⟨none_fails, ends⟩)⟩
  · rintro ⟨none_fails, none_ends⟩ r (⟨failed, -⟩ | ⟨-, ends⟩)
    · exact none_fails _ _ failed
    · exact none_ends r ends

end Sys2Proof.Machine
end

section
/-!
The seal check and the sound program (R13): a program without a failure is sound, and a sound one has no failure.
-/

namespace Sys2Proof.Machine

section
variable {segs : List Seg} {i : Nat} {g : Seg}

/-- What a segment needs in its place: sound fields, an END last, room for one more loop, a loop with a body (R10,
R11). -/
def PassesAt (segs : List Seg) (i : Nat) (g : Seg) : Prop :=
  SoundSegment g
  ∧ (g.kind = some .fin → ¬i + 1 < segs.length)
  ∧ (g.kind = some .rep → (opensBefore segs i).length < 3)
  ∧ (g.kind = some .again → ∃ outer j, opensBefore segs i = outer ++ [j] ∧ j + 1 ≠ i)

/-- A segment passes exactly when it fails for no reason. -/
theorem passesAt_iff (hg : segs[i]? = some g) : PassesAt segs i g ↔ ∀ reason, ¬SegmentFails segs i reason := by
  constructor
  · rintro ⟨sound, fin, rep, again⟩ reason ⟨g', hg', failed⟩
    obtain rfl : g = g' := by simpa [hg] using hg'
    rcases failed with ⟨unsound, -⟩
      | ⟨-, ⟨k, early, -⟩ | ⟨k, deep, -⟩ | ⟨k, none_open, -⟩ | ⟨k, ⟨outer, j, e, here⟩, -⟩⟩
    · exact unsound sound
    · exact fin k early
    · exact Nat.not_lt.2 deep (rep k)
    · obtain ⟨outer, j, e, -⟩ := again k
      simp [none_open] at e
    · obtain ⟨outer', j', e', bodied⟩ := again k
      rw [e] at e'
      obtain ⟨-, rfl⟩ : outer = outer' ∧ j = j' := by simpa using List.append_inj' e' rfl
      exact bodied here
  · intro passed
    have sound : SoundSegment g := by
      by_contra unsound
      obtain ⟨reason, why⟩ := exists_fieldReason g
      exact passed reason ⟨g, hg, .inl ⟨unsound, why⟩⟩
    refine ⟨sound, fun k early => ?_, fun k => ?_, fun k => ?_⟩
    · exact passed .endNotLast ⟨g, hg, .inr ⟨sound, .inl ⟨k, early, rfl⟩⟩⟩
    · by_contra deep
      exact passed .loopTooDeep ⟨g, hg, .inr ⟨sound, .inr (.inl ⟨k, Nat.not_lt.1 deep, rfl⟩)⟩⟩
    · rcases List.eq_nil_or_concat (opensBefore segs i) with e | ⟨outer, j, e⟩
      · exact absurd ⟨g, hg, .inr ⟨sound, .inr (.inr (.inl ⟨k, e, rfl⟩))⟩⟩ (passed .againWithoutRepeat)
      · refine ⟨outer, j, by simpa using e, fun here => ?_⟩
        exact passed .emptyLoop ⟨g, hg, .inr ⟨sound, .inr (.inr (.inr ⟨k, ⟨outer, j, by simpa using e, here⟩, rfl⟩))⟩⟩

theorem kindAt (hg : segs[i]? = some g) : segs[i]?.bind Seg.kind = g.kind := by
  rw [hg]
  rfl

theorem exists_of_kindAt {k : SegKind} (h : segs[i]?.bind Seg.kind = some k) :
    ∃ g, segs[i]? = some g ∧ g.kind = some k := by
  cases hg : segs[i]? with
  | none => simp [hg] at h
  | some g => exact ⟨g, rfl, by simpa [hg] using h⟩

end

/-- Every segment passes in its place. -/
def AllPass (segs : List Seg) : Prop := ∀ i g, segs[i]? = some g → PassesAt segs i g

theorem allPass_iff (segs : List Seg) : AllPass segs ↔ ∀ i reason, ¬SegmentFails segs i reason := by
  constructor
  · rintro pass i reason ⟨g, hg, failed⟩
    exact (passesAt_iff hg).1 (pass i g hg) reason ⟨g, hg, failed⟩
  · exact fun passed i g hg => (passesAt_iff hg).2 (passed i)

/-! ## Open REPEATs and the counts of REPEATs and AGAINs -/

section
variable {segs : List Seg}

/-- Where every segment passes, the open REPEATs are the REPEATs less the AGAINs. -/
theorem AllPass.balanced (pass : AllPass segs) (n : Nat) :
    kindCount .again (segs.take n) + (opensBefore segs n).length = kindCount .rep (segs.take n) := by
  induction n with
  | zero => simp [opensBefore, kindCount]
  | succ n ih =>
    refine opens_balanced_succ ih fun again => ?_
    obtain ⟨g, hg, k⟩ := exists_of_kindAt again
    obtain ⟨-, -, -, closes⟩ := pass n g hg
    obtain ⟨outer, j, e, -⟩ := closes k
    simp [e]

/-- Where every segment passes, no more than three loops are open at once. -/
theorem AllPass.depth (pass : AllPass segs) (n : Nat) : (opensBefore segs n).length ≤ 3 := by
  induction n with
  | zero => simp [opensBefore]
  | succ n ih =>
    by_cases hr : segs[n]?.bind Seg.kind = some .rep
    · obtain ⟨g, hg, k⟩ := exists_of_kindAt hr
      obtain ⟨-, -, room, -⟩ := pass n g hg
      rw [opensBefore_rep hr]
      simpa using room k
    by_cases ha : segs[n]?.bind Seg.kind = some .again
    · rw [opensBefore_again ha, List.length_dropLast]
      omega
    · rwa [opensBefore_other hr ha]

/-- Where AGAINs never outnumber the REPEATs before them, the open REPEATs are the REPEATs less the AGAINs. -/
theorem balanced_of_counts
    (counts : ∀ n, n ≤ segs.length → kindCount .again (segs.take n) ≤ kindCount .rep (segs.take n)) {n : Nat}
    (hn : n ≤ segs.length) :
    kindCount .again (segs.take n) + (opensBefore segs n).length = kindCount .rep (segs.take n) := by
  induction n with
  | zero => simp [opensBefore, kindCount]
  | succ n ih =>
    have balanced := ih (Nat.le_of_succ_le hn)
    refine opens_balanced_succ balanced fun again none_open => ?_
    have more := counts (n + 1) hn
    rw [kindCount_take_succ, kindCount_take_succ] at more
    simp [again] at more
    simp [none_open] at balanced
    omega

/-! ## Sound programs -/

/-- The end of a program that does not fail: it is there, it is an END, and no REPEAT is open (R12). -/
theorem no_endFails_iff : (∀ r, ¬EndFails segs r) ↔
    (∃ init last, segs = init ++ [last] ∧ last.kind = some .fin) ∧ opensBefore segs segs.length = [] := by
  constructor
  · intro ends
    rcases List.eq_nil_or_concat segs with rfl | ⟨init, last, e⟩
    · exact absurd (.inl ⟨rfl, rfl⟩) (ends ⟨.emptyProgram, 0⟩)
    rw [List.concat_eq_append] at e
    have fin : last.kind = some .fin := by
      by_contra other
      exact ends ⟨.noEnd, init.length⟩ (.inr ⟨init, last, e, .inl ⟨other, rfl⟩⟩)
    refine ⟨⟨init, last, e, fin⟩, ?_⟩
    rcases List.eq_nil_or_concat (opensBefore segs segs.length) with closed | ⟨outer, i, opened⟩
    · exact closed
    · rw [List.concat_eq_append] at opened
      exact absurd (.inr ⟨init, last, e, .inr ⟨fin, outer, i, opened, rfl⟩⟩) (ends ⟨.repeatUnclosed, i⟩)
  · rintro ⟨⟨init, last, e, fin⟩, closed⟩ r (⟨empty, -⟩ | ⟨init', last', e', ⟨other, -⟩ | ⟨-, outer, i, opened, -⟩⟩)
    · simp [e] at empty
    · rw [e] at e'
      obtain ⟨-, rfl⟩ : init = init' ∧ last = last' := by simpa using List.append_inj' e' rfl
      exact other fin
    · simp [closed] at opened

theorem AllPass.soundProgram (pass : AllPass segs) (ends : ∀ r, ¬EndFails segs r) : SoundProgram segs := by
  obtain ⟨⟨init, last, e, fin⟩, closed⟩ := no_endFails_iff.1 ends
  refine ⟨by simp [e], fun i g hg => ?_, fun n _ => ?_, ?_, fun i a b ha hb => ?_⟩
  · obtain ⟨sound, early, -, -⟩ := pass i g hg
    have inside : i < segs.length := (List.getElem?_eq_some_iff.1 hg).1
    refine ⟨sound, fun k => ?_, fun at_end => ?_⟩
    · have := early k
      omega
    · obtain rfl : i = init.length := by simpa [e] using at_end
      obtain rfl : last = g := by simpa [e] using hg
      exact fin
  · have balanced := pass.balanced n
    have depth := pass.depth n
    omega
  · have balanced := pass.balanced segs.length
    simp only [List.take_length, closed, List.length_nil] at balanced
    omega
  · rintro ⟨rep, again⟩
    obtain ⟨-, -, -, bodied⟩ := pass (i + 1) b hb
    obtain ⟨outer, j, opens, body⟩ := bodied again
    rw [opensBefore_rep (by rw [kindAt ha, rep])] at opens
    obtain ⟨-, rfl⟩ : opensBefore segs i = outer ∧ i = j := by simpa using List.append_inj' opens rfl
    exact body rfl

theorem SoundProgram.allPass (sound : SoundProgram segs) : AllPass segs := by
  obtain ⟨-, segments, counts, -, bodies⟩ := sound
  intro i g hg
  have inside : i < segs.length := (List.getElem?_eq_some_iff.1 hg).1
  have balanced := balanced_of_counts (fun n hn => (counts n hn).1) (Nat.le_of_lt inside)
  obtain ⟨fields, fin⟩ := segments i g hg
  refine ⟨fields, fun k => ?_, fun k => ?_, fun k => ?_⟩
  · have := fin.1 k
    omega
  · have room := (counts (i + 1) inside).2
    rw [kindCount_take_succ, kindCount_take_succ, kindAt hg, k] at room
    simp at room
    omega
  · rcases List.eq_nil_or_concat (opensBefore segs i) with none_open | ⟨outer, j, opens⟩
    · have more := (counts (i + 1) inside).1
      rw [kindCount_take_succ, kindCount_take_succ, kindAt hg, k] at more
      simp at more
      simp [none_open] at balanced
      omega
    · rw [List.concat_eq_append] at opens
      refine ⟨outer, j, opens, ?_⟩
      rintro rfl
      obtain ⟨a, ha, rep⟩ := exists_of_kindAt (rep_of_opensBefore_succ opens)
      exact bodies j a g ha hg ⟨rep, k⟩

theorem SoundProgram.end_passes (sound : SoundProgram segs) (r : SealResult) : ¬EndFails segs r := by
  obtain ⟨nonempty, segments, counts, closed, -⟩ := sound
  refine no_endFails_iff.2 ⟨?_, ?_⟩ r
  · rcases List.eq_nil_or_concat segs with empty | ⟨init, last, e⟩
    · exact absurd empty nonempty
    · rw [List.concat_eq_append] at e
      obtain ⟨-, fin⟩ := segments init.length last (by simp [e])
      exact ⟨init, last, e, fin.2 (by simp [e])⟩
  · have balanced := balanced_of_counts (fun n hn => (counts n hn).1) (Nat.le_refl segs.length)
    rw [List.take_length] at balanced
    exact List.eq_nil_of_length_eq_zero (by omega)

end

/-- Settles O15: the check's verdict by induction over the segments, and soundness by counting the open REPEATs. -/
theorem sealChecksTheProgram : Obligations.SealChecksTheProgram := by
  refine ⟨fun segs => ?_, sealCheck_eq_some⟩
  rw [sealCheck_eq_none, ← allPass_iff]
  exact ⟨fun ⟨pass, ends⟩ => pass.soundProgram ends, fun sound => ⟨sound.allPass, sound.end_passes⟩⟩

end Sys2Proof.Machine
end

section
/-!
SUPPORT. The run of a zone (R22 to R43, R53 to R60, R67): one rule for each stage of the executor and for each way it
goes on.
-/

namespace Sys2Proof.Machine

/-! ## Timed and zero-time segments (R24) -/

section
variable {g : Seg} {k : SegKind}

/-- The kinds whose feedback check is made (R54, R55). -/
theorem Seg.closedTimed_iff (hk : g.kind = some k) :
    g.closedTimed = true ↔ k = .ramp ∨ k = .soak ∨ (k = .step ∧ g.band? ≠ none) := by
  cases k <;> simp [Seg.closedTimed, hk, Option.isSome_iff_ne_none]

theorem Seg.timed_iff (hk : g.kind = some k) :
    g.timed = true ↔ k = .ramp ∨ k = .soak ∨ k = .drive ∨ (k = .step ∧ g.band? ≠ none) := by
  rw [Seg.timed, Bool.or_eq_true, Seg.closedTimed_iff hk, hk, decide_eq_true_eq, Option.some_inj]
  tauto

theorem Seg.untimed_iff (hk : g.kind = some k) :
    g.timed = false ↔ k = .rep ∨ k = .again ∨ k = .mark ∨ k = .fin ∨ (k = .step ∧ g.band? = none) := by
  rw [← Bool.not_eq_true, Seg.timed_iff hk]
  cases k <;> simp

/-- A DRIVE has no feedback check. -/
theorem Seg.closedTimed_drive (hk : g.kind = some .drive) : g.closedTimed = false := by
  simp [Seg.closedTimed, hk]

end

/-! ## Held and keeping boundaries (R59, R60) -/

section
variable {e : RunEnv} {r : ZoneRec} {reports : List Report} {released : Bool}

theorem RunEnv.heldRegime_spec (e : RunEnv) (r : ZoneRec) : HeldRegime e r (e.heldRegime r) := by
  refine ⟨fun fallback => ?_, fun regulate => ⟨fun g hg target entered kind => ?_, fun undriven => ?_⟩⟩
  · simp [RunEnv.heldRegime, fallback]
  · simp [RunEnv.heldRegime, regulate, hg, target, entered, kind]
  · cases hg : e.prog[r.seg]? with
    | none => simp [RunEnv.heldRegime, regulate, hg]
    | some g => simp [RunEnv.heldRegime, regulate, hg, undriven g hg]

/-- What a hold at the zone's own boundary leaves (R47, R48, R59). -/
theorem RunEnv.hold_spec (e : RunEnv) (r : ZoneRec) (reports : List Report) (c : Cause) (why : StateReason)
    (target : Target) (released : Bool) :
    ∃ regime, HeldRegime e (heldAs r c target) regime ∧ e.hold r reports c why target released =
      { zr := heldAs r c target
        reports := reports ++ moveReports e r.state .held why (.only c)
        regime := regime
        released := released } :=
  ⟨_, e.heldRegime_spec _, rfl⟩

theorem RunEnv.keep_usable (usable : e.usable = true) :
    e.keep r reports released =
      { zr := r, reports := reports, regime := .closed r.setpoint, released := released } := by
  simp [RunEnv.keep, usable]

theorem RunEnv.keep_unfed (unusable : e.usable = false) (unfed : e.live.feedback = none) :
    e.keep r reports released = { zr := r, reports := reports, regime := .zero, released := released } := by
  simp [RunEnv.keep, unusable, unfed]

theorem RunEnv.keep_failed (unusable : e.usable = false) (fed : e.live.feedback ≠ none) :
    e.keep r reports released = e.hold r reports .sensor .sensor .keeping released := by
  simp [RunEnv.keep, unusable, Option.isSome_iff_ne_none.2 fed]

end

/-! ## The zero-time chain (R27, R37 to R41) -/

section
variable {e : RunEnv} {i n : Nat} {r : ZoneRec} {reports : List Report} {g : Seg} {k : SegKind}

/-- A timed segment stops the chain, however many zero-time segments it may still execute. -/
theorem RunEnv.chain_timed (hg : e.prog[i]? = some g) (hk : g.kind = some k) (timed : g.timed = true) :
    e.chain n i r reports = (r.enter i g, reports ++ e.segmentReport i k, .entered) := by
  cases n <;> simp [RunEnv.chain, hg, hk, timed]

theorem RunEnv.chain_limit (hg : e.prog[i]? = some g) (hk : g.kind = some k) (untimed : g.timed = false) :
    e.chain 0 i r reports = (r.waitAt i, reports, .limit) := by
  simp [RunEnv.chain, hg, hk, untimed]

theorem RunEnv.chain_rep (hg : e.prog[i]? = some g) (hk : g.kind = some .rep) :
    e.chain (n + 1) i r reports =
      e.chain n (i + 1) { r.moveTo i with stack := r.stack ++ [⟨i, g.number - 1⟩] } reports := by
  simp [RunEnv.chain, hg, hk, (Seg.untimed_iff hk).2]

theorem RunEnv.chain_again (hg : e.prog[i]? = some g) (hk : g.kind = some .again) :
    e.chain (n + 1) i r reports =
      e.chain n (runAgain i r.stack).1 { r.moveTo i with stack := (runAgain i r.stack).2 } reports := by
  simp [RunEnv.chain, hg, hk, (Seg.untimed_iff hk).2]

theorem RunEnv.chain_mark (hg : e.prog[i]? = some g) (hk : g.kind = some .mark) (goes : g.option = false) :
    e.chain (n + 1) i r reports = e.chain n (i + 1) (r.moveTo i) (reports ++ e.markReport g) := by
  simp [RunEnv.chain, hg, hk, goes, (Seg.untimed_iff hk).2]

theorem RunEnv.chain_break (hg : e.prog[i]? = some g) (hk : g.kind = some .mark) (breaks : g.option = true) :
    e.chain (n + 1) i r reports = ((r.moveTo i).waitAt (i + 1), reports ++ e.markReport g, .broke) := by
  simp [RunEnv.chain, hg, hk, breaks, (Seg.untimed_iff hk).2]

theorem RunEnv.chain_fin (hg : e.prog[i]? = some g) (hk : g.kind = some .fin) :
    e.chain (n + 1) i r reports = (r.moveTo i, reports, .finished g.option) := by
  simp [RunEnv.chain, hg, hk, (Seg.untimed_iff hk).2]

/-- A STEP without band sets the setpoint and takes no time (R32). -/
theorem RunEnv.chain_step (hg : e.prog[i]? = some g) (hk : g.kind = some .step) (unbanded : g.band? = none) :
    e.chain (n + 1) i r reports = e.chain n (i + 1) { r.moveTo i with setpoint := g.target } reports := by
  simp [RunEnv.chain, hg, hk, unbanded, (Seg.untimed_iff hk).2]

/-- An AGAIN with passes left goes back behind its REPEAT; on its last pass it leaves the loop (R38). -/
theorem runAgain_concat (i : Nat) (outer : List Loop) (l : Loop) :
    runAgain i (outer ++ [l]) =
      if 0 < l.remaining then (l.repeatAt + 1, outer ++ [⟨l.repeatAt, l.remaining - 1⟩]) else (i + 1, outer) := by
  simp [runAgain]

/-- The chain reads no skip request and takes none back. -/
@[simp] theorem RunEnv.chain_skip (e : RunEnv) (n i : Nat) (r : ZoneRec) (reports : List Report) :
    (e.chain n i r reports).1.skip = r.skip := by
  induction n generalizing i r reports with
  | zero =>
    unfold RunEnv.chain
    repeat' split
    all_goals rfl
  | succ n ih =>
    unfold RunEnv.chain
    repeat' split
    all_goals simp only [ih, ZoneRec.enter, ZoneRec.waitAt, ZoneRec.moveTo]

end

/-! ## The setpoint stage and the progress stage (R23, R28, R40 to R42, R55) -/

section
variable {e : RunEnv} {i : Nat} {r r' : ZoneRec} {before reports : List Report} {g : Seg}

theorem RunEnv.conclude_ramp {d : Nat} (hg : e.prog[r.seg]? = some g) (hk : g.kind = some .ramp)
    (lasts : g.duration? = some d) :
    e.conclude r reports =
      { zr := { r with runMark := true, setpoint := rampAt r.origin g.target r.elapsed d }
        reports := reports
        regime := .closed (rampAt r.origin g.target r.elapsed d)
        released := false } := by
  simp [RunEnv.conclude, hg, hk, lasts, rampSetpoint, rampAt]

/-- Every segment but a RAMP keeps its setpoint. -/
theorem RunEnv.conclude_of_ne_ramp (hg : e.prog[r.seg]? = some g) (hk : g.kind ≠ some .ramp) :
    e.conclude r reports =
      { zr := { r with runMark := true }
        reports := reports
        regime := if g.kind = some .drive then .opened g.number else .closed r.setpoint
        released := false } := by
  by_cases drive : g.kind = some .drive
  · simp [RunEnv.conclude, hg, drive]
  · simp [RunEnv.conclude, hg, drive]

theorem RunEnv.progress_entered (stop : e.chain 16 i r before = (r', reports, .entered))
    (hg : e.prog[r'.seg]? = some g) (supplied : g.closedTimed = true → e.usable = true) :
    e.progress i r before = e.conclude r' reports := by
  simpa [RunEnv.progress, Config.chainLimit, stop, hg] using fun closed unusable => by simp_all

theorem RunEnv.progress_unsupplied (stop : e.chain 16 i r before = (r', reports, .entered))
    (hg : e.prog[r'.seg]? = some g) (closed : g.closedTimed = true) (unusable : e.usable = false) :
    e.progress i r before = e.hold r' reports .sensor .sensor .running false := by
  simp [RunEnv.progress, Config.chainLimit, stop, hg, closed, unusable]

theorem RunEnv.progress_limit (stop : e.chain 16 i r before = (r', reports, .limit)) :
    e.progress i r before =
      { zr := { r' with runMark := false }
        reports := reports
        regime := if e.live.feedback = none then .zero else .closed r'.setpoint
        released := false } := by
  cases fed : e.live.feedback <;> simp [RunEnv.progress, Config.chainLimit, stop, fed]

theorem RunEnv.progress_broke (stop : e.chain 16 i r before = (r', reports, .broke)) :
    e.progress i r before = e.hold r' reports .brk .brk .running false := by
  simp [RunEnv.progress, Config.chainLimit, stop]

/-- An END without final KEEP (R40). -/
theorem RunEnv.progress_ended (stop : e.chain 16 i r before = (r', reports, .finished false)) :
    e.progress i r before =
      { zr := { r' with active := none, steps := 0, runMark := false, state := .idle }
        reports := reports ++ moveReports e r'.state .idle .fin r'.causes
        regime := .zero
        released := true } := by
  simp [RunEnv.progress, Config.chainLimit, stop, RunEnv.finish, RunEnv.stateReport, moveReports]

/-- An END with final KEEP goes on as a keeping boundary (R67). -/
theorem RunEnv.progress_kept (stop : e.chain 16 i r before = (r', reports, .finished true)) :
    e.progress i r before =
      e.keep { r' with active := none, steps := 0, runMark := false, state := .keeping }
        (reports ++ moveReports e r'.state .keeping .fin r'.causes) true := by
  simp [RunEnv.progress, Config.chainLimit, stop, RunEnv.finish, RunEnv.stateReport, moveReports]

theorem RunEnv.conclude_skip (e : RunEnv) (r : ZoneRec) (reports : List Report) :
    (e.conclude r reports).zr.skip = r.skip := by
  unfold RunEnv.conclude
  repeat' split
  all_goals rfl

theorem RunEnv.finish_skip (e : RunEnv) (r : ZoneRec) (reports : List Report) (keep : Bool) :
    (e.finish r reports keep).zr.skip = r.skip := by
  unfold RunEnv.finish RunEnv.keep
  repeat' split
  all_goals rfl

/-- The progress stage leaves a skip request as it finds it (R43). -/
theorem RunEnv.progress_skip (e : RunEnv) (i : Nat) (r : ZoneRec) (before : List Report) :
    (e.progress i r before).zr.skip = r.skip := by
  have kept := e.chain_skip Config.chainLimit i r before
  unfold RunEnv.progress
  split <;> rename_i stop <;> rw [stop] at kept
  · split
    · exact kept
    · exact (e.conclude_skip _ _).trans kept
  · exact kept
  · exact kept
  · exact (e.finish_skip _ _ _).trans kept
  · exact kept

end

/-! ## The time charge (R25, R29, R31) -/

section
variable {e : RunEnv} {r : ZoneRec} {g : Seg} {band : Nat}

theorem RunEnv.charge_unmarked (unmarked : r.runMark = false) : e.charge g r = r :=
  if_neg (Bool.eq_false_iff.1 unmarked)

theorem RunEnv.charge_drive (marked : r.runMark = true) (drive : g.kind = some .drive) :
    e.charge g r = { r with elapsed := r.elapsed + e.worth } := by
  rw [RunEnv.charge, if_pos marked]
  simp only [drive]

theorem RunEnv.charge_unbanded (marked : r.runMark = true) (kind : g.kind = some .ramp ∨ g.kind = some .soak)
    (hb : g.band? = none) : e.charge g r = { r with elapsed := r.elapsed + e.worth } := by
  rw [RunEnv.charge, if_pos marked]
  rcases kind with k | k <;> simp only [k, hb]

theorem RunEnv.charge_banded (marked : r.runMark = true) (kind : g.kind = some .ramp ∨ g.kind = some .soak)
    (hb : g.band? = some band) : e.charge g r = e.chargeBanded r band := by
  rw [RunEnv.charge, if_pos marked]
  rcases kind with k | k <;> simp only [k, hb]

theorem RunEnv.chargeBanded_outside (out : (band : Int) < |e.pv - r.setpoint|) :
    e.chargeBanded r band = { r with holdBack := true } := by
  simp [RunEnv.chargeBanded, RunEnv.outside, out]

theorem RunEnv.chargeBanded_inside (close : |e.pv - r.setpoint| ≤ (band : Int)) :
    e.chargeBanded r band = { r with elapsed := r.elapsed + e.worth, holdBack := false } := by
  simp [RunEnv.chargeBanded, RunEnv.outside, Int.not_lt.2 close]

/-- A banded STEP counts its settle time when it has a duration. -/
theorem RunEnv.charge_step (step : g.kind = some .step) :
    e.charge g r =
      { r with elapsed := if r.runMark = true ∧ g.duration? ≠ none then r.elapsed + e.worth else r.elapsed } := by
  by_cases counts : r.runMark = true ∧ g.duration? ≠ none
  · obtain ⟨marked, lasts⟩ := counts
    simp [RunEnv.charge, step, marked, lasts, Option.isSome_iff_ne_none]
  · rw [if_neg counts]
    change e.charge g r = r
    rcases not_and_or.1 counts with unmarked | unlimited
    · exact if_neg unmarked
    · simp [RunEnv.charge, step, not_not.1 unlimited]

end

/-! ## The end test (R26, R28, R33 to R35) -/

section
variable {e : RunEnv} {r : ZoneRec} {g : Seg} {band : Nat}

/-- The segments that end by a skip request or by their time alone. -/
def Seg.EndsByTime (g : Seg) : Prop := g.kind = some .ramp ∨ g.kind = some .soak ∨ g.kind = some .drive

theorem Seg.reached_iff : g.reached r = true ↔ ∃ d, g.duration? = some d ∧ d ≤ r.elapsed := by
  simp [Seg.reached, Option.any_eq_true]

/-- A skip request comes before the duration; a RAMP that ends by its duration ends at its target. -/
theorem RunEnv.endTest_of_endsByTime (kind : g.EndsByTime) :
    e.endTest g r =
      if r.skip then .ends { r with skip := false } []
      else if g.reached r then .ends { r with setpoint := if g.kind = some .ramp then g.target else r.setpoint } []
      else .stays := by
  rcases kind with k | k | k <;> simp [RunEnv.endTest, k]

theorem RunEnv.endTest_of_banded (step : g.kind = some .step) (hb : g.band? = some band) :
    e.endTest g r = e.endTestStep g band r := by
  simp [RunEnv.endTest, step, hb]

theorem RunEnv.endTestStep_skipped (skip : r.skip = true) :
    e.endTestStep g band r =
      .ends { r with skip := false, expired := false } (e.settleReport r.seg .skipped) :=
  if_pos skip

theorem RunEnv.endTestStep_released (skip : r.skip = false) (expired : r.expired = true) :
    e.endTestStep g band r = .ends { r with expired := false } (e.settleReport r.seg .released) := by
  rw [RunEnv.endTestStep, if_neg (Bool.eq_false_iff.1 skip), if_pos expired]

/-- With no request and no expiry the band comes before the duration (R33). -/
theorem RunEnv.endTestStep_unasked (skip : r.skip = false) (unexpired : r.expired = false) :
    e.endTestStep g band r =
      if |e.pv - r.setpoint| ≤ (band : Int) then .ends r (e.settleReport r.seg .settled)
      else if ∃ d, g.duration? = some d ∧ d ≤ r.elapsed then
        if g.option then .ends r (e.settleReport r.seg .timeoutContinue)
        else .settleHold { r with expired := true } (e.settleReport r.seg .timeoutHold)
      else .stays := by
  have same : ({ r with expired := false } : ZoneRec) = r := by rw [← unexpired]
  rw [RunEnv.endTestStep, if_neg (Bool.eq_false_iff.1 skip), if_neg (Bool.eq_false_iff.1 unexpired), same]
  simp [RunEnv.outside, ← Seg.reached_iff]

end

/-! ## The run update by its end test (R23, R53, R54, R57) -/

section
variable {e : RunEnv} {r r' : ZoneRec} {g : Seg} {reports : List Report}

/-- A step is counted in STEPPING alone (R57). -/
theorem ZoneRec.countStep_eq (r : ZoneRec) :
    r.countStep = { r with steps := if r.state = .stepping then r.steps - 1 else r.steps } := by
  unfold ZoneRec.countStep
  split <;> rfl

/-- The boundary of a zone whose feedback check passes is the four stages and the count of the step. -/
theorem RunEnv.executorStage_of_updates (updates : Updates r)
    (supplied : ∀ g, e.prog[r.seg]? = some g → g.closedTimed = true → e.usable = true) :
    e.executorStage r = { e.fourStages r with zr := (e.fourStages r).zr.countStep } := by
  have passes : ((e.prog[r.seg]?).any Seg.closedTimed && !e.usable) = false := by
    cases hg : e.prog[r.seg]? with
    | none => rfl
    | some g => simpa using supplied g hg
  have runs : e.runUpdate r = { e.fourStages r with zr := (e.fourStages r).zr.countStep } := by
    simp [RunEnv.runUpdate, passes]
  rcases updates with running | ⟨stepping, left⟩
  · simpa [RunEnv.executorStage, running] using runs
  · simpa [RunEnv.executorStage, stepping, Nat.ne_of_gt left] using runs

theorem RunEnv.fourStages_waiting (waiting : r.entered = false) : e.fourStages r = e.progress r.seg r [] := by
  simp [RunEnv.fourStages, waiting]

section
variable {c : ZoneRec}

theorem RunEnv.fourStages_of_stays (entered : r.entered = true) (hg : e.prog[r.seg]? = some g)
    (charge : e.charge g r = c) (test : e.endTest g c = .stays) : e.fourStages r = e.conclude c [] := by
  simp [RunEnv.fourStages, entered, hg, charge, test]

theorem RunEnv.fourStages_of_ends (entered : r.entered = true) (hg : e.prog[r.seg]? = some g)
    (charge : e.charge g r = c) (test : e.endTest g c = .ends r' reports) :
    e.fourStages r = e.progress (r.seg + 1) r' reports := by
  simp [RunEnv.fourStages, entered, hg, charge, test]

theorem RunEnv.fourStages_of_settleHold (entered : r.entered = true) (hg : e.prog[r.seg]? = some g)
    (charge : e.charge g r = c) (test : e.endTest g c = .settleHold r' reports) :
    e.fourStages r = e.hold r' reports .settle .settle .running false := by
  simp [RunEnv.fourStages, entered, hg, charge, test]

end

end

end Sys2Proof.Machine
end

section
/-!
The run of a zone (R22 to R43, R54 to R58, R67): the time charge and the end test of a timed segment, the zero-time
segments, and the ways a chain stops.
-/

namespace Sys2Proof.Machine

/-! ## Zero-time segments and the stops of a chain -/

/-- Settles O46, kind by kind. -/
theorem zeroTimeSegmentsAreExecuted : Obligations.ZeroTimeSegmentsAreExecuted := by
  intro e n i r reports g hg
  refine ⟨fun hk => RunEnv.chain_rep hg hk, fun outer l hk stack => ?_, fun hk goes => RunEnv.chain_mark hg hk goes,
    fun hk breaks => RunEnv.chain_break hg hk breaks, fun hk => RunEnv.chain_fin hg hk,
    fun hk unbanded => RunEnv.chain_step hg hk unbanded, fun k hk timed => ?_,
    fun k hk untimed => RunEnv.chain_limit hg hk ((Seg.untimed_iff hk).2 untimed)⟩
  · rw [RunEnv.chain_again hg hk, stack, runAgain_concat]
    split <;> rfl
  · rw [RunEnv.chain_timed hg hk ((Seg.timed_iff hk).2 timed)]
    simp [ZoneRec.enter, ZoneRec.moveTo, RunEnv.segmentReport, hk]

/-- Settles O47, stop by stop. -/
theorem theChainsStopDecidesTheFrame : Obligations.TheChainsStopDecidesTheFrame := by
  intro e i r r' before reports left
  refine ⟨fun g stop hg closed unusable => ?_, fun g stop hg unramped kind => ?_,
    fun g d stop hg ramp usable lasts => ?_, RunEnv.progress_limit, fun stop => ?_, RunEnv.progress_ended,
    fun stop usable => ?_, fun stop unusable unfed => ?_, fun stop unusable fed => ?_⟩
  · rw [RunEnv.progress_unsupplied stop hg closed unusable]
    exact e.hold_spec ..
  · have supplied : g.closedTimed = true → e.usable = true := by
      rcases kind with drive | ⟨-, usable⟩
      · simp [Seg.closedTimed_drive drive]
      · exact fun _ => usable
    rw [RunEnv.progress_entered stop hg supplied, RunEnv.conclude_of_ne_ramp hg unramped]
  · rw [RunEnv.progress_entered stop hg fun _ => usable, RunEnv.conclude_ramp hg ramp lasts]
  · rw [RunEnv.progress_broke stop]
    exact e.hold_spec ..
  · rw [RunEnv.progress_kept stop, RunEnv.keep_usable usable]
  · rw [RunEnv.progress_kept stop, RunEnv.keep_unfed unusable unfed]
  · rw [RunEnv.progress_kept stop, RunEnv.keep_failed unusable fed]
    exact e.hold_spec ..

/-! ## RAMP, SOAK and DRIVE -/

section
variable {e : RunEnv} {r : ZoneRec} {g : Seg} {duration elapsed : Nat} {holdBack : Bool}

/-- The elapsed time and the hold-back flag of `Charged` are those of the time charge. -/
theorem Charged.charge_eq (h : Charged e r g duration elapsed holdBack) :
    e.charge g r = { r with elapsed := elapsed, holdBack := holdBack } := by
  obtain ⟨-, kind, -, -, -, unmarked, free, inside, outside⟩ := h
  rcases Bool.eq_false_or_eq_true r.runMark with mark | mark
  · by_cases drive : g.kind = some .drive
    · obtain ⟨rfl, rfl⟩ := free mark (.inl drive)
      exact RunEnv.charge_drive mark drive
    have closed : g.kind = some .ramp ∨ g.kind = some .soak := by tauto
    cases hb : g.band? with
    | none =>
      obtain ⟨rfl, rfl⟩ := free mark (.inr hb)
      exact RunEnv.charge_unbanded mark closed hb
    | some band =>
      rw [RunEnv.charge_banded mark closed hb]
      rcases le_or_gt |e.pv - r.setpoint| (band : Int) with close | out
      · obtain ⟨rfl, rfl⟩ := inside mark drive band hb close
        exact RunEnv.chargeBanded_inside close
      · obtain ⟨rfl, rfl⟩ := outside mark drive band hb out
        exact RunEnv.chargeBanded_outside out
  · obtain ⟨rfl, rfl⟩ := unmarked mark
    exact RunEnv.charge_unmarked mark

/-- The feedback check of a charged segment passes (R54). -/
theorem Charged.supplied (h : Charged e r g duration elapsed holdBack) :
    ∀ g', e.prog[r.seg]? = some g' → g'.closedTimed = true → e.usable = true := by
  intro g' hg' closed
  obtain rfl : g = g' := Option.some.inj (h.current.symm.trans hg')
  rcases h.usable with drive | usable
  · simp [Seg.closedTimed_drive drive] at closed
  · exact usable

end

/-- The truncated share `m / n` of a rise `d` is at least nothing and at most the whole rise. -/
theorem tdiv_mul_bounds {d m n : Int} (hd : 0 ≤ d) (hm : 0 ≤ m) (le : m ≤ n) (hn : 0 < n) :
    0 ≤ (d * m).tdiv n ∧ (d * m).tdiv n ≤ d := by
  have whole : d * m ≤ d * n := Int.mul_le_mul_of_nonneg_left le hd
  rw [Int.tdiv_eq_ediv_of_nonneg (Int.mul_nonneg hd hm)]
  exact ⟨Int.ediv_nonneg (Int.mul_nonneg hd hm) hn.le, Int.ediv_le_of_le_mul hn whole⟩

/-- The setpoint of a RAMP lies between its origin and its target, upward and downward alike (R28). -/
theorem rampAt_bounds (origin target : Int) (elapsed : Nat) {duration : Nat} (lasts : 1 ≤ duration) :
    min origin target ≤ rampAt origin target elapsed duration
      ∧ rampAt origin target elapsed duration ≤ max origin target := by
  have part : ((min elapsed duration : Nat) : Int) ≤ duration := by omega
  unfold rampAt
  rcases le_total origin target with up | down
  · have := tdiv_mul_bounds (Int.sub_nonneg.2 up) (Int.natCast_nonneg _) part (by omega)
    omega
  · have bounds := tdiv_mul_bounds (Int.sub_nonneg.2 down) (Int.natCast_nonneg _) part (by omega)
    rw [← Int.neg_sub target origin, Int.neg_mul, Int.neg_tdiv] at bounds
    omega

theorem rampAt_zero (origin target : Int) (duration : Nat) : rampAt origin target 0 duration = origin := by
  simp [rampAt]

theorem rampAt_of_le (origin target : Int) {elapsed duration : Nat} (lasts : 1 ≤ duration)
    (reached : duration ≤ elapsed) : rampAt origin target elapsed duration = target := by
  rw [rampAt, Nat.min_eq_right reached, Int.mul_tdiv_cancel _ (by omega)]
  omega

/-- Settles O44: the charge, then the end test of a segment that ends by its time. -/
theorem timedSegmentsAreCharged : Obligations.TimedSegmentsAreCharged := by
  refine ⟨fun e r g duration elapsed holdBack h updates => ?_, fun e r updates waiting supplied => ?_,
    fun origin target elapsed duration lasts => ?_⟩
  · have kind : g.EndsByTime := h.kind
    have charge := h.charge_eq
    have stage := RunEnv.executorStage_of_updates updates h.supplied
    have test := RunEnv.endTest_of_endsByTime (e := e) (r := { r with elapsed := elapsed, holdBack := holdBack }) kind
    have reached : g.reached { r with elapsed := elapsed, holdBack := holdBack } = decide (duration ≤ elapsed) := by
      simp [Seg.reached, h.lasts]
    rw [reached] at test
    refine ⟨fun skip early => ?_, fun skip late => ?_, fun skip => ?_⟩
    · rw [if_neg (by simp [skip]), if_neg (by simp [early])] at test
      rw [stage, RunEnv.fourStages_of_stays h.entered h.current charge test]
      by_cases ramp : g.kind = some .ramp
      · rw [RunEnv.conclude_ramp (by exact h.current) ramp h.lasts]
        simp [ZoneRec.countStep_eq, ramp]
      · rw [RunEnv.conclude_of_ne_ramp (by exact h.current) ramp]
        simp [ZoneRec.countStep_eq, ramp]
    · rw [if_neg (by simp [skip]), if_pos (by simp [late])] at test
      rw [stage, RunEnv.fourStages_of_ends h.entered h.current charge test]
    · rw [if_pos skip] at test
      rw [stage, RunEnv.fourStages_of_ends h.entered h.current charge test]
  · refine ⟨?_, e.progress_skip ..⟩
    rw [RunEnv.executorStage_of_updates updates supplied, RunEnv.fourStages_waiting waiting, ZoneRec.countStep_eq]
  · obtain ⟨low, high⟩ := rampAt_bounds origin target elapsed lasts
    exact ⟨low, high, rampAt_zero .., rampAt_of_le origin target lasts⟩

/-! ## A STEP with band -/

/-- Settles O45, by the end test of a STEP with band, test by test. -/
theorem settleStepsEndByTheFirstTest : Obligations.SettleStepsEndByTheFirstTest := by
  intro e r g band elapsed hg step hb entered usable updates charged close late report ended
  let c : ZoneRec := { r with elapsed := elapsed }
  have charge : e.charge g r = c := by rw [RunEnv.charge_step step, ← charged]
  have stage := RunEnv.executorStage_of_updates updates fun _ _ _ => usable
  have test : e.endTest g c = e.endTestStep g band c := RunEnv.endTest_of_banded step hb
  have ends {r' : ZoneRec} {o : SettleOutcome} (h : e.endTestStep g band c = .ends r' (report o)) :
      e.executorStage r = ended r' o := by
    rw [stage, RunEnv.fourStages_of_ends entered hg charge (test.trans h)]
  refine ⟨fun skip => ends (RunEnv.endTestStep_skipped skip),
    fun skip expired => ends (RunEnv.endTestStep_released skip expired), fun skip unexpired => ?_⟩
  have unasked := RunEnv.endTestStep_unasked (e := e) (r := c) (g := g) (band := band) skip unexpired
  refine ⟨fun near => ends ?_, fun far timeout goesOn => ends ?_, fun far timeout holds => ?_, fun far inTime => ?_⟩
  · exact unasked.trans (if_pos near)
  · rw [unasked, if_neg far, if_pos timeout, if_pos goesOn]
    rfl
  · rw [if_neg far, if_pos timeout, if_neg (Bool.eq_false_iff.1 holds)] at unasked
    intro h
    obtain ⟨regime, held, hold⟩ :=
      e.hold_spec { c with expired := true } (report .timeoutHold) .settle .settle .running false
    refine ⟨regime, held, ?_⟩
    rw [stage, RunEnv.fourStages_of_settleHold (reports := report .timeoutHold) entered hg charge
      (test.trans unasked), hold]
    rfl
  · rw [if_neg far, if_neg inTime] at unasked
    rw [stage, RunEnv.fourStages_of_stays entered hg charge (test.trans unasked),
      RunEnv.conclude_of_ne_ramp (r := c) hg (by simp [step]), ZoneRec.countStep_eq]
    simp [c, step]

end Sys2Proof.Machine
end

section
/-!
The control law of a frame (R76 to R84): its limits in closed form, when the integral is held, and the demand and the
accumulator by the frame's regime.
-/

namespace Sys2Proof.Machine

/-! ## Limits (R78) -/

theorem limit_eq_max_min {lo hi : Int} (ordered : lo ≤ hi) (x : Int) : limit lo hi x = max lo (min hi x) := by
  unfold limit
  split_ifs <;> omega

section
variable {p : Params} (lastGrant : Nat) (raw : Int)

theorem limitedTo_nonneg : 0 ≤ limitedTo p lastGrant raw := by
  unfold limitedTo
  cases p.slew <;> dsimp only <;> omega

theorem limitedTo_le_ceiling : limitedTo p lastGrant raw ≤ p.ceiling := min_le_left ..

/-- The slew window is never empty, so that with an ordered floor and ceiling every limit is a maximum of a minimum. -/
theorem limitDemand_eq_limitedTo (ordered : p.floor ≤ p.ceiling) :
    limitDemand p lastGrant raw = limitedTo p lastGrant raw := by
  have clamp := limit_eq_max_min (Int.ofNat_le.2 ordered) raw
  have window (n : Nat) (x : Int) := limit_eq_max_min (lo := (lastGrant : Int) - n) (hi := lastGrant + n) (by omega) x
  have cap (x : Int) : (if (p.ceiling : Int) < x then (p.ceiling : Int) else x) = min (p.ceiling : Int) x := by omega
  unfold limitDemand limitedTo
  cases p.slew <;> simp only [clamp, window, cap]

theorem toNat_limitDemand (ordered : p.floor ≤ p.ceiling) :
    ((limitDemand p lastGrant raw).toNat : Int) = limitedTo p lastGrant raw := by
  rw [limitDemand_eq_limitedTo lastGrant raw ordered]
  exact Int.toNat_of_nonneg (limitedTo_nonneg lastGrant raw)

theorem toNat_limitDemand_le_ceiling (ordered : p.floor ≤ p.ceiling) :
    (limitDemand p lastGrant raw).toNat ≤ p.ceiling := by
  have limited := toNat_limitDemand lastGrant raw ordered
  have capped := limitedTo_le_ceiling (p := p) lastGrant raw
  omega

end

/-! ## A closed-loop frame (R76, R77, R79) -/

theorem loopError_eq (setpoint pv : Int) : loopError setpoint pv = max (-32767) (min 32767 (setpoint - pv)) :=
  limit_eq_max_min (by decide) _

theorem candidate_eq (ki : Nat) (acc err : Int) : candidate ki acc err = max 0 (min 1048576 (acc + ki * err)) :=
  limit_eq_max_min (by decide) _

/-- The integral is held against a demand that was cut on the error's side, by a limit or by the governor's trim. -/
theorem integralHeld_iff {err raw demand : Int} {trimmed : Bool} :
    integralHeld err raw demand trimmed = true ↔
      0 < err ∧ (demand < raw ∨ trimmed = true) ∨ err < 0 ∧ raw < demand := by
  simp [integralHeld]

/-! ## The frame's regime (R80, R81, R83, R84) -/

section
variable {e : RunEnv} {c : Control}

theorem demandOf_closed_usable (usable : e.usable = true) (setpoint : Int) :
    demandOf e c (.closed setpoint) = closedDemand e.live c setpoint e.pv := if_pos usable

theorem demandOf_closed_unusable (unusable : e.usable = false) (setpoint : Int) :
    demandOf e c (.closed setpoint) = fallbackDemand e.live c := if_neg (Bool.eq_false_iff.1 unusable)

/-- No regime asks for more than the ceiling (R78, R83). -/
theorem demandOf_le_ceiling (ordered : e.live.floor ≤ e.live.ceiling) (regime : Regime) :
    (demandOf e c regime).demand ≤ e.live.ceiling := by
  have fallback : (fallbackDemand e.live c).demand ≤ e.live.ceiling := Nat.min_le_right ..
  cases regime with
  | closed setpoint =>
    rcases Bool.eq_false_or_eq_true e.usable with usable | unusable
    · rw [demandOf_closed_usable usable]
      exact toNat_limitDemand_le_ceiling _ _ ordered
    · rwa [demandOf_closed_unusable unusable]
  | opened duty => exact toNat_limitDemand_le_ceiling _ _ ordered
  | fallback => exact fallback
  | zero => exact Nat.zero_le _

end

/-- Settles O49, regime by regime. -/
theorem controlLawOfAFrame : Obligations.ControlLawOfAFrame := by
  intro e c ordered p
  refine ⟨fun setpoint usable => ?_, fun setpoint unusable => demandOf_closed_unusable unusable setpoint,
    fun duty => ⟨toNat_limitDemand _ _ ordered, rfl, rfl⟩, rfl, rfl, demandOf_le_ceiling ordered⟩
  intro err acc cand raw d
  have law : d = { demand := (limitDemand p c.lastGrant raw).toNat
                   acc := if integralHeld err raw (limitDemand p c.lastGrant raw) c.trimmedLast then acc else cand
                   kind := .closedLoop } := by
    simp only [d, demandOf_closed_usable usable, closedDemand, loopError_eq, candidate_eq]
    rfl
  rw [law, limitDemand_eq_limitedTo _ _ ordered]
  refine ⟨Int.toNat_of_nonneg (limitedTo_nonneg ..), rfl, fun rising cut => ?_, fun falling raised => ?_,
    fun uncut unraised => ?_⟩
  · exact if_pos (integralHeld_iff.2 (.inl ⟨rising, cut⟩))
  · exact if_pos (integralHeld_iff.2 (.inr ⟨falling, raised⟩))
  · refine if_neg fun held => ?_
    rcases integralHeld_iff.1 held with ⟨rising, cut | trimmed⟩ | ⟨falling, raised⟩
    · exact (uncut rising).1 cut
    · simp [(uncut rising).2] at trimmed
    · exact unraised falling raised

end Sys2Proof.Machine
end

section
/-!
SUPPORT. What a step can do to the link, the converter and the modulator, said once (R88, R89, R130, R131, R173 to
R196): a step is a sequence of moves, most of which work on the zones and the store and submit reports. An invariant of
these blocks then needs one case for each move, not one for each row of the table.
-/

namespace Sys2Proof.Machine

/-! ## Moves -/

/-- The sensors, the converter, the modulator and the live device record are as they were, and the link has had reports
submitted to it and nothing else. -/
structure Quiet (s t : State) : Prop where
  sensors : t.sensors = s.sensors
  scan : t.scan = s.scan
  modulator : t.modulator = s.modulator
  live : t.device.live = s.device.live
  link : ∃ rs : List Report, t.link = rs.foldl Link.submit s.link

/-- What the line, the executor and the transmitter do to the link, with `d` the live device record. -/
inductive LinkMove (d : DeviceRec) (l : Link) : Link → Prop where
  | countLoss (c : LossCause) : LinkMove d l (l.countLoss c)
  | wake : LinkMove d l (l.wake d.ack)
  | choose : LinkMove d l (l.choose d.ack)
  | receive (r : Receiver) : LinkMove d l { l with receiver := r }
  | restore (silence : Option Nat) : LinkMove d l { l with silence := silence, connected := true }
  | lose : LinkMove d l { l with connected := false, silence := none }
  | join (f : WireFrame) (room : l.rxQueue.length < 4) : LinkMove d l { l with rxQueue := l.rxQueue ++ [f] }
  | take : LinkMove d l { l with rxQueue := l.rxQueue.tail }
  | reply (f : WireFrame) (m : Option RetryMemory) (room : l.replies.length < 4) :
      LinkMove d l { l with replies := l.replies ++ [f], retry := m }
  | awaitReset : LinkMove d l { l with awaitsReset := true }
  | ack (n : Byte) : LinkMove d l (l.ack d n)
  | goBack : LinkMove d l l.goBack
  | startResend (time : Option Nat) : LinkMove d l { l with resend := time }
  | replySent : LinkMove d l { l with replies := l.replies.tail }
  | reportSent (f : WireFrame) (wentBack : Bool) (sending : l.tx = .report f wentBack) :
      LinkMove d l (l.reportSent d f.seq wentBack)

/-- One move of the part. -/
inductive Move (s : State) : State → Prop where
  | quiet {t : State} (h : Quiet s t) : Move s t
  | link {l : Link} (h : LinkMove s.device.live s.link l) : Move s { s with link := l }
  | device (d : Device) : Move s { s with device := d, link := s.link.newDevice s.device.live d.live }
  | sensor (i : SensorId) (x : Sensor) (h : x.status = .unscanned ↔ (s.sensor i).status = .unscanned) :
      Move s (s.setSensor i x)
  | list (l : List SensorId) : Move s { s with scan := { s.scan with pending := some l } }
  | convert (k : Nat) (h : k < s.scan.live.length) : Move s { s with scan := { s.scan with converting := some k } }
  | pass (order : List SensorId) : Move s (s.takePending order).beginPass
  | tick (h : s.modulator.atCycleEnd = false) : Move s (s.startTick (s.modulator.tick + 1))
  | cycle (newLength : Bool) :
      Move s { s with modulator := { counter := nextCounter s.modulator newLength, tick := 0, fresh := false } }
  | drive : Move s (s.startTick 0)
  | softReset : Move s s.softResetAll
  | hardReset (rate : LinkRate) (cause : StartCause) (p : List Instr) :
      Move s { State.afterHardReset rate cause with pending := p }

/-- A sequence of moves. -/
abbrev Moves : State → State → Prop := Relation.ReflTransGen Move

theorem Move.moves {s t : State} (h : Move s t) : Moves s t := .single h

theorem Quiet.moves {s t : State} (h : Quiet s t) : Moves s t := .single (.quiet h)

/-- A state that differs in its link alone, by a move of it. -/
theorem LinkMove.moves {s t : State} (h : LinkMove s.device.live s.link t.link) (ht : t = { s with link := t.link }) :
    Moves s t := by
  rw [ht]
  exact .single (.link h)

/-- A property that every move keeps is kept by every sequence of moves. -/
theorem Moves.keeps {I : State → Prop} (hI : ∀ s t, Move s t → I s → I t) {s t : State} (h : Moves s t) (hs : I s) :
    I t := by
  induction h with
  | refl => exact hs
  | tail _ last ih => exact hI _ _ last ih

/-! ## Quiet operations -/

section
variable {s t u : State}

theorem Quiet.refl (s : State) : Quiet s s := ⟨rfl, rfl, rfl, rfl, [], rfl⟩

theorem Quiet.trans (h : Quiet s t) (k : Quiet t u) : Quiet s u := by
  obtain ⟨rs, hrs⟩ := h.link
  obtain ⟨rs', hrs'⟩ := k.link
  exact ⟨k.sensors.trans h.sensors, k.scan.trans h.scan, k.modulator.trans h.modulator, k.live.trans h.live,
    rs ++ rs', by rw [hrs', hrs, List.foldl_append]⟩

/-- A quiet operation submits reports, so it keeps the rest of the link. -/
theorem Quiet.onlyReports (h : Quiet s t) : s.link.OnlyReports t.link := by
  obtain ⟨rs, hrs⟩ := h.link
  rw [hrs]
  exact Link.foldl_submit_onlyReports _ _

theorem Quiet.submit (s : State) (r : Report) : Quiet s (s.submit r) := ⟨rfl, rfl, rfl, rfl, [r], rfl⟩

theorem Quiet.submitAll (s : State) (rs : List Report) : Quiet s (s.submitAll rs) :=
  ⟨by simp, by simp, by simp, by simp, rs, by simp⟩

theorem Quiet.setZone (s : State) (z : ZoneId) (x : Zone) : Quiet s (s.setZone z x) := ⟨rfl, rfl, rfl, rfl, [], rfl⟩

theorem Quiet.setSlot (s : State) (k : SlotId) (x : Slot) : Quiet s (s.setSlot k x) := ⟨rfl, rfl, rfl, rfl, [], rfl⟩

theorem Quiet.releaseProgram (s : State) (h : Option SlotId) : Quiet s (s.releaseProgram h) :=
  ⟨by simp, by simp, by simp, by simp, [], by simp⟩

theorem Quiet.reportState (s : State) (z : ZoneId) (old : ZoneState) (why : StateReason) :
    Quiet s (s.reportState z old why) :=
  ⟨by simp, by simp, by simp, by simp, _, s.reportState_link_eq z old why⟩

/-- A zone set, and its ZONE_STATE report sent. -/
theorem Quiet.setZone_reportState (s : State) (z : ZoneId) (x : Zone) (old : ZoneState) (why : StateReason) :
    Quiet s ((s.setZone z x).reportState z old why) :=
  (Quiet.setZone s z x).trans (.reportState _ _ _ _)

theorem Quiet.holdZone (s : State) (z : ZoneId) (c : Cause) (why : StateReason) : Quiet s (s.holdZone z c why) := by
  unfold State.holdZone
  dsimp only
  split
  · exact .setZone _ _ _
  · exact .setZone_reportState _ _ _ _ _

theorem Quiet.trip (s : State) (z : ZoneId) (c : TripCause) (g : Option TripGuard) : Quiet s (s.trip z c g) := by
  rcases ZoneState.active_cases (s.zone z).zr.state with active | tripped | idle
  · rw [State.trip_active active]
    exact ((Quiet.setZone _ _ _).trans (.releaseProgram _ _)).trans (.submit _ _)
  · rw [State.trip_tripped tripped]
    exact .setZone _ _ _
  · rw [State.trip_idle idle]
    exact .refl _

theorem Quiet.foldl {α : Type} {f : State → α → State} (h : ∀ s a, Quiet s (f s a)) (l : List α) (s : State) :
    Quiet s (l.foldl f s) := by
  induction l generalizing s with
  | nil => exact .refl s
  | cons a l ih => exact (h s a).trans (ih _)

theorem Quiet.tripAll (s : State) (c : TripCause) : Quiet s (s.tripAll c) := .foldl (fun _ _ => .trip _ _ _ _) _ _

end

/-! ## Requests that work on the zones and the store -/

/-- A block whose work is quiet. -/
def QuietBlock (block : State → Answer) : Prop := ∀ u, Quiet u (block u).2

theorem quietBlock_ping (p : List Byte) : QuietBlock (blockPing p) := fun u => .refl u

theorem quietBlock_identify : QuietBlock blockIdentify := fun u => by
  dsimp only [blockIdentify]
  exact .refl u

theorem quietBlock_allStop : QuietBlock blockAllStop := fun u => by
  dsimp only [blockAllStop]
  exact .tripAll u .hostAll

theorem quietBlock_deviceSet (p : List Byte) : QuietBlock (blockDeviceSet p) := fun u => by
  unfold blockDeviceSet
  repeat' split
  · exact .refl u
  · exact .refl u
  · exact ⟨rfl, rfl, rfl, rfl, [], rfl⟩

theorem quietBlock_deviceGet (p : List Byte) : QuietBlock (blockDeviceGet p) := fun u => by
  unfold blockDeviceGet
  split <;> exact .refl u

theorem quietBlock_deviceCommit : QuietBlock blockDeviceCommit := fun u => by
  unfold blockDeviceCommit
  split
  · exact .refl u
  · exact ⟨rfl, rfl, rfl, rfl, [], rfl⟩

theorem quietBlock_progOpen (p : List Byte) : QuietBlock (blockProgOpen p) := fun u =>
  onSlot_keeps (.refl u) fun k => by
    dsimp only
    split
    · exact .refl u
    · exact ⟨rfl, rfl, rfl, rfl, [], rfl⟩

theorem quietBlock_progDelete (p : List Byte) : QuietBlock (blockProgDelete p) := fun u =>
  onSlot_keeps (.refl u) fun k => by
    dsimp only
    split
    · exact .refl u
    · exact ⟨rfl, rfl, rfl, rfl, [], rfl⟩

theorem quietBlock_progAppend (p : List Byte) : QuietBlock (blockProgAppend p) := fun u =>
  onSlot_keeps (.refl u) fun k => by
    dsimp only
    repeat' split
    · exact .refl u
    · exact .refl u
    · exact ⟨rfl, rfl, rfl, rfl, [], rfl⟩

theorem quietBlock_progSeal (p : List Byte) : QuietBlock (blockProgSeal p) := fun u =>
  onSlot_keeps (.refl u) fun k => by
    dsimp only
    repeat' split
    · exact .refl u
    · exact .setSlot _ _ _
    · exact .setSlot _ _ _

theorem quietBlock_progInfo (p : List Byte) : QuietBlock (blockProgInfo p) := fun u =>
  onSlot_keeps (.refl u) fun _ => .refl u

theorem quietBlock_progRead (p : List Byte) : QuietBlock (blockProgRead p) := fun u =>
  onSlot_keeps (.refl u) fun k => by
    dsimp only
    repeat' split
    all_goals exact .refl u

theorem quietBlock_zoneStart (p : List Byte) : QuietBlock (blockZoneStart p) := fun u =>
  onZone_keeps (.refl u) fun z => by
    split
    · exact .refl u
    split
    · exact .refl u
    · exact ((Quiet.setZone _ _ _).trans (.setSlot _ _ _)).trans (.reportState _ _ _ _)

theorem quietBlock_zoneAbort (p : List Byte) : QuietBlock (blockZoneAbort p) := fun u =>
  onZone_keeps (.refl u) fun z => by
    dsimp only
    split
    · exact .refl u
    · exact .refl u
    · exact ((Quiet.setZone _ _ _).trans (.releaseProgram _ _)).trans (.reportState _ _ _ _)

theorem quietBlock_zonePause (p : List Byte) : QuietBlock (blockZonePause p) := fun u =>
  onZone_keeps (.refl u) fun z => by
    dsimp only
    split
    · exact .holdZone _ _ _ _
    · exact .refl u

theorem quietBlock_zoneResume (p : List Byte) : QuietBlock (blockZoneResume p) := fun u =>
  onZone_keeps (.refl u) fun z => by
    dsimp only
    split
    · exact .refl u
    change Quiet u (ite _ _ _)
    split
    · exact .setZone _ _ _
    · exact .setZone_reportState _ _ _ _ _

theorem quietBlock_zoneStep (p : List Byte) : QuietBlock (blockZoneStep p) := fun u =>
  onZone_keeps (.refl u) fun z => by
    dsimp only
    repeat' split
    · exact .refl u
    · exact .setZone_reportState _ _ _ _ _
    · exact .refl u

theorem quietBlock_zoneSkip (p : List Byte) : QuietBlock (blockZoneSkip p) := fun u =>
  onZone_keeps (.refl u) fun z => by
    dsimp only
    split
    · exact .setZone _ _ _
    · exact .refl u

theorem quietBlock_zoneTrip (p : List Byte) : QuietBlock (blockZoneTrip p) := fun u =>
  onZone_keeps (.refl u) fun z => by
    dsimp only
    split
    · exact .trip _ _ _ _
    · exact .refl u

theorem quietBlock_zoneClearTrip (p : List Byte) : QuietBlock (blockZoneClearTrip p) := fun u =>
  onZone_keeps (.refl u) fun z => by
    dsimp only
    repeat' split
    · exact .refl u
    · exact .refl u
    · exact .refl u
    · exact .setZone_reportState _ _ _ _ _

theorem quietBlock_zoneStatus (p : List Byte) : QuietBlock (blockZoneStatus p) := fun u =>
  onZone_keeps (.refl u) fun _ => .refl u

theorem quietBlock_zoneSetParam (p : List Byte) : QuietBlock (blockZoneSetParam p) := fun u =>
  onZone_keeps (.refl u) fun z => by
    dsimp only
    repeat' split
    · exact .refl u
    · exact .refl u
    · exact .setZone _ _ _

theorem quietBlock_zoneGetParam (p : List Byte) : QuietBlock (blockZoneGetParam p) := fun u =>
  onZone_keeps (.refl u) fun z => by
    dsimp only
    split <;> exact .refl u

theorem quietBlock_zoneCommit (p : List Byte) : QuietBlock (blockZoneCommit p) := fun u =>
  onZone_keeps (.refl u) fun z => by
    dsimp only
    split
    · exact .refl u
    · exact .setZone _ _ _

theorem quietBlock_zoneDiscard (p : List Byte) : QuietBlock (blockZoneDiscard p) := fun u =>
  onZone_keeps (.refl u) fun z => by
    dsimp only
    split
    · exact (Quiet.setZone _ _ _).trans (.submit _ _)
    · exact .setZone _ _ _

theorem quietBlock_sensorRead (p : List Byte) : QuietBlock (blockSensorRead p) := fun u =>
  onSensor_keeps (.refl u) fun _ => .refl u

theorem quietBlock_scanGet : QuietBlock blockScanGet := fun u => .refl u

/-! ## Boundaries and guards -/

theorem Quiet.stagingStage (s : State) (z : ZoneId) : Quiet s (s.stagingStage z) := by
  unfold State.stagingStage
  split
  · exact (Quiet.setZone _ _ _).trans (.submit _ _)
  · exact .refl s

theorem Quiet.executorStage (s : State) (z : ZoneId) (u : Update) : Quiet s (s.executorStage z u) := by
  unfold State.executorStage
  dsimp only
  split
  · exact ((Quiet.setZone _ _ _).trans (.releaseProgram _ _)).trans (.submitAll _ _)
  · exact (Quiet.setZone _ _ _).trans (.submitAll _ _)

theorem Quiet.governorStage (s : State) (z : ZoneId) (demand : Nat) : Quiet s (s.governorStage z demand).2 := by
  unfold State.governorStage
  dsimp only
  split
  · exact (Quiet.setZone _ _ _).trans (.setZone _ _ _)
  · exact ((Quiet.setZone _ _ _).trans (.setZone _ _ _)).trans (.submit _ _)

/-- The five stages of a boundary, one after the other. -/
theorem Quiet.boundary (s : State) (z : ZoneId) : Quiet s (s.boundary z) := by
  unfold State.boundary
  exact (((Quiet.stagingStage s z).trans (.executorStage _ _ _)).trans (.governorStage _ _ _)).trans (.setZone _ _ _)

theorem Quiet.cycleZone (s : State) (z : ZoneId) : Quiet s (s.cycleZone z) := by
  unfold State.cycleZone
  split
  · exact .boundary s z
  · exact .setZone _ _ _

theorem Quiet.judgeZone (s : State) (z : ZoneId) (g : GuardEntry) (k : Nat) (reading : Int) :
    Quiet s (s.judgeZone z g k reading) := by
  unfold State.judgeZone
  dsimp only
  split
  · exact .setZone _ _ _
  split
  · exact (Quiet.setZone _ _ _).trans (.trip _ _ _ _)
  · exact .setZone _ _ _

theorem Quiet.evaluateZone (s : State) (o : Offer) (z : ZoneId) : Quiet s (s.evaluateZone o z) := by
  unfold State.evaluateZone
  repeat' split
  · exact .refl s
  · exact .refl s
  · exact .judgeZone _ _ _ _ _
  · exact .trip _ _ _ _
  · exact .refl s

theorem Quiet.evaluate (s : State) (o : Offer) : Quiet s (s.evaluate o) := .foldl (fun _ _ => .evaluateZone _ _ _) _ _

theorem Quiet.assertStop (s : State) : Quiet s s.assertStop := by
  have asserted : Quiet s { s with stop := { asserted := true, lowCount := 0, highCount := 0 } } :=
    ⟨rfl, rfl, rfl, rfl, [], rfl⟩
  exact (asserted.trans (.tripAll _ _)).trans (.submit _ _)

end Sys2Proof.Machine
end

section
/-!
SUPPORT. Every step is a sequence of moves: a request takes its frame, does its block's work and is answered (R179 to
R182), an event does its effect, and an IDLE transmitter chooses before and after (R183).
-/

namespace Sys2Proof.Machine

variable {s t : State}

/-! ## Requests -/

theorem State.wake_moves (s : State) : Moves s s.wake := LinkMove.wake.moves rfl

/-- What a block may do besides quiet work; it leaves the reply queue to the executor (R179). -/
def BlockMoves (block : State → Answer) : Prop :=
  ∀ u, Moves u (block u).2 ∧ (block u).2.link.replies = u.link.replies

theorem QuietBlock.blockMoves {block : State → Answer} (h : QuietBlock block) : BlockMoves block := fun u => by
  have keeps := (h u).onlyReports.keeps
  exact ⟨(h u).moves, keeps.2.2.2.2.2.1⟩

theorem State.takeFrame_moves (s : State) : Moves s s.takeFrame := LinkMove.take.moves rfl

/-- A free place of the reply queue takes the answer (R179, R180). -/
theorem State.answer_moves (room : s.link.replies.length < 4) (f : WireFrame) (p : List Byte) :
    Moves s (s.answer f p) := (LinkMove.reply _ _ room).moves rfl

theorem State.repeatReply_moves (room : s.link.replies.length < 4) : Moves s s.repeatReply := by
  unfold State.repeatReply
  split
  · exact (LinkMove.reply _ s.link.retry room).moves rfl
  · exact .refl

theorem State.canTake_room {f : WireFrame} (h : s.canTake f = true) : s.link.replies.length < 4 := by
  simp only [State.canTake, Bool.and_eq_true, decide_eq_true_eq] at h
  exact h.1.2

theorem State.serve_moves {block : State → Answer} (hb : BlockMoves block) (f : WireFrame) (ok : Bool) (s : State) :
    Moves s (s.serve f ok block) := by
  have room (h : s.canTake f = true) : s.takeFrame.link.replies.length < 4 := State.canTake_room (s := s) h
  obtain ⟨work, replies⟩ := hb s.takeFrame
  rcases s.serve_cases f ok block with ⟨-, e⟩ | ⟨h, -, e⟩ | ⟨⟨h, -⟩, -, e⟩ | ⟨⟨h, -⟩, -, e⟩ <;> rw [e]
  · exact s.takeFrame_moves.trans (State.repeatReply_moves (room h))
  · exact (s.takeFrame_moves.trans work).trans (State.answer_moves (by rw [replies]; exact room h) _ _)
  · exact s.takeFrame_moves.trans (State.answer_moves (room h) _ _)

/-- A command's effect between two choices of an IDLE transmitter (R183). -/
theorem carryOut_moves {effect : State → State} (he : ∀ u, Moves u (effect u)) (h : s.carryOut effect = .next t) :
    Moves s t := by
  obtain rfl : (effect s.wake).wake = t := by simpa [State.carryOut] using h
  exact (s.wake_moves.trans (he _)).trans (State.wake_moves _)

theorem request_moves {block : State → Answer} {f : WireFrame} {ok : Bool} (hb : BlockMoves block)
    (h : s.carryOut (·.serve f ok block) = .next t) : Moves s t :=
  carryOut_moves (State.serve_moves hb f ok) h

/-- A block that answers from what it finds. -/
theorem quietBlock_payload (p : List Byte) : QuietBlock (fun u => (p, u)) := fun u => .refl u

theorem blockMoves_restart : BlockMoves blockRestart := fun _ => ⟨LinkMove.awaitReset.moves rfl, rfl⟩

/-- The removal of an acknowledged report leaves the reply queue (R189). -/
theorem Link.ack_replies (l : Link) (d : DeviceRec) (n : Byte) : (l.ack d n).replies = l.replies := by
  unfold Link.ack
  split <;> rfl

theorem blockMoves_ackReports (p : List Byte) : BlockMoves (blockAckReports p) := fun _ =>
  ⟨(LinkMove.ack (at8 p 0)).moves rfl, Link.ack_replies _ _ _⟩

theorem blockMoves_sensorSet (p : List Byte) : BlockMoves (blockSensorSet p) := fun u =>
  onSensor_keeps (I := fun v => Moves u v ∧ v.link.replies = u.link.replies) ⟨.refl, rfl⟩ fun i => by
    split
    · exact ⟨.refl, rfl⟩
    · exact ⟨(Move.sensor i (sensorWith p (u.sensor i)) Iff.rfl).moves, rfl⟩

/-- What no takeover touches. -/
theorem State.takePending_keeps (s : State) (order : List SensorId) :
    (s.takePending order).zones = s.zones ∧ (s.takePending order).store = s.store
    ∧ (s.takePending order).stop = s.stop ∧ (s.takePending order).modulator = s.modulator
    ∧ (s.takePending order).device = s.device ∧ (s.takePending order).pending = s.pending := by
  unfold State.takePending
  dsimp only
  repeat' split
  all_goals simp

/-- A takeover submits reports, and does nothing else to the link. -/
theorem State.takePending_submits (s : State) (order : List SensorId) :
    ∃ rs : List Report, (s.takePending order).link = rs.foldl Link.submit s.link := by
  unfold State.takePending
  dsimp only
  split
  · exact ⟨[], rfl⟩
  split
  · exact ⟨[_], rfl⟩
  · exact ⟨_ ++ [_], by rw [State.submit_link, State.submitAll_link, List.foldl_append]; rfl⟩

theorem blockMoves_scanSet (p : List Byte) : BlockMoves (blockScanSet p) := fun u => by
  unfold blockScanSet
  split
  · exact ⟨.refl, rfl⟩
  next list _ =>
  have listed : Moves u { u with scan := { u.scan with pending := some list } } := (Move.list list).moves
  dsimp only
  split
  · refine ⟨listed.tail (.pass _), ?_⟩
    obtain ⟨rs, hrs⟩ := State.takePending_submits { u with scan := { u.scan with pending := some list } } allSensors
    rw [State.beginPass_link, hrs]
    exact (Link.foldl_submit_onlyReports _ rs).keeps.2.2.2.2.2.1
  · exact ⟨listed, rfl⟩

/-! ## The line, the transmitter and the timers -/

theorem State.hunt_moves (s : State) : Moves s s.hunt := (LinkMove.receive .hunting).moves rfl

theorem State.countLoss_moves (s : State) (c : LossCause) : Moves s (s.countLoss c) := (LinkMove.countLoss c).moves rfl

/-- A good frame restarts the silence timer as it restores the link (R177, R193). -/
theorem State.endLost_restartSilence_moves (s : State) : Moves s s.restartSilence.endLost := by
  have restored : Moves s
      { s with link := { s.link with silence := silenceFrom s.device.live.timeout, connected := true } } :=
    (Move.link (.restore (silenceFrom s.device.live.timeout))).moves
  unfold State.endLost
  split
  · next connected =>
    have same : s.restartSilence
        = { s with link := { s.link with silence := silenceFrom s.device.live.timeout, connected := true } } := by
      rw [← show s.link.connected = true from connected]
      rfl
    rw [same]
    exact restored
  · exact restored.trans (Quiet.submit _ _).moves

theorem State.joinQueue_moves (s : State) (f : WireFrame) : Moves s (s.joinQueue f) := by
  unfold State.joinQueue
  split
  · next room => exact (LinkMove.join f room).moves rfl
  · exact s.countLoss_moves _

theorem State.goodFrame_moves (s : State) (f : WireFrame) : Moves s (s.goodFrame f) :=
  s.endLost_restartSilence_moves.trans (State.joinQueue_moves _ f)

theorem State.collect_moves (s : State) (bytes : List Byte) : Moves s (s.collect bytes) := by
  unfold State.collect
  repeat' split
  · exact s.hunt_moves.trans (State.countLoss_moves _ _)
  · exact s.hunt_moves.trans (State.goodFrame_moves _ _)
  · exact s.hunt_moves.trans (State.countLoss_moves _ _)
  · exact (LinkMove.receive (.collecting bytes)).moves rfl

theorem State.loseLink_moves (s : State) : Moves s s.loseLink := by
  unfold State.loseLink
  split
  · exact .refl
  · have lost : Moves s { s with link := { s.link with connected := false, silence := none } } :=
      (Move.link .lose).moves
    exact lost.trans (Quiet.submit _ _).moves

theorem State.holdForLink_quiet (s : State) (z : ZoneId) : Quiet s (s.holdForLink z) := .holdZone _ _ _ _

/-- The end of the frame in transmission (R182, R187, R188, R195). -/
theorem State.endFrame_moves (s : State) : Moves s s.endFrame := by
  unfold State.endFrame
  split
  · exact Move.softReset.moves
  have choice (l : Link) : Moves { s with link := l } { s with link := l.choose s.device.live.ack } :=
    LinkMove.choose.moves rfl
  dsimp only
  split
  · exact choice s.link
  · exact (LinkMove.replySent.moves rfl).trans (choice _)
  · next f wentBack sending => exact (Move.link (.reportSent f wentBack sending)).moves.trans (choice _)

/-! ## The modulator and the converter -/

theorem State.beginCycle_moves (s : State) : Moves s s.beginCycle := by
  have applied : Moves s s.applyDevice := by
    unfold State.applyDevice
    split
    · exact (Move.device { s.device with live := s.device.staged, pending := false }).moves.trans
        (Quiet.submit _ _).moves
    · exact .refl
  exact applied.trans (Move.cycle _).moves

theorem State.cycleEvent_moves (s : State) (e : CycleEvent) : Moves s (s.cycleEvent e) := by
  cases e with
  | start => exact s.beginCycle_moves
  | boundary z => exact (Quiet.cycleZone s z).moves
  | expiry => exact s.loseLink_moves
  | hold z => exact (s.holdForLink_quiet z).moves

theorem State.startCycle_moves (s : State) (order : List CycleEvent) : Moves s (s.startCycle order) := by
  have events : Moves s ((s.cycleOrder order).foldl State.cycleEvent s) :=
    List.foldlRecOn _ _ .refl fun _ h e _ => h.trans (State.cycleEvent_moves _ e)
  exact events.trans Move.drive.moves

/-- The status after a completion is UNSCANNED exactly where it was before (R102). -/
theorem Sensor.complete_unscanned (n : Sensor) (code : Nat) :
    (n.complete code).status = .unscanned ↔ n.status = .unscanned := by
  have next (valid : Bool) (a b : Nat) : nextStatus n.status valid a b n.faultCount = .unscanned
      ↔ n.status = .unscanned := by
    cases n.status <;> cases valid <;> simp only [nextStatus] <;> (try split) <;> simp
  unfold Sensor.complete
  dsimp only
  split <;> exact next _ _ _

theorem State.handleReading_moves (s : State) (i : SensorId) (code : Nat) : Moves s (s.handleReading i code) := by
  have stored : Moves s (s.setSensor i ((s.sensor i).complete code)) :=
    (Move.sensor i _ (Sensor.complete_unscanned _ _)).moves
  unfold State.handleReading
  refine Relation.ReflTransGen.trans ?_ (Quiet.evaluate _ _).moves
  split
  · exact stored.trans (Quiet.submit _ _).moves
  · exact stored

theorem State.nextConversion_moves (s : State) (index : Nat) (order : List SensorId) :
    Moves s (s.nextConversion index order) := by
  unfold State.nextConversion
  split
  · next more => exact (Move.convert _ more).moves
  · exact (Move.pass order).moves

/-! ## The events -/

theorem execRetry_moves {seq kind : Byte} {payload : List Byte} (h : execRetry seq kind payload s = .next t) :
    Moves s t := by
  unfold execRetry at h
  refine carryOut_moves (fun u => ?_) h
  split
  · exact State.serve_moves (quietBlock_payload _).blockMoves _ _ u
  · exact .refl

theorem execUnknownKind_moves {seq kind : Byte} {payload : List Byte}
    (h : execUnknownKind seq kind payload s = .next t) : Moves s t := by
  unfold execUnknownKind at h
  refine carryOut_moves (fun u => ?_) h
  split
  · exact .refl
  · exact State.serve_moves (quietBlock_payload _).blockMoves _ _ u

theorem execGoodFrame_moves {seq kind : Byte} {payload : List Byte} (h : execGoodFrame seq kind payload s = .next t) :
    Moves s t := by
  unfold execGoodFrame at h
  refine carryOut_moves (fun u => ?_) h
  split
  · exact u.hunt_moves.trans (State.goodFrame_moves _ _)
  · exact .refl

/-- A frame is abandoned or discarded, and counted (R176). -/
theorem State.hunt_countLoss_moves (s : State) (c : LossCause) : Moves s (s.hunt.countLoss c) :=
  s.hunt_moves.trans (State.countLoss_moves _ c)

theorem execFrameGap_moves (h : execFrameGap s = .next t) : Moves s t := by
  unfold execFrameGap at h
  refine carryOut_moves (fun u => ?_) h
  split
  · exact .refl
  · exact u.hunt_countLoss_moves .gap

theorem execSilenceTimerExpiry_moves {order : List Nat} (h : execSilenceTimerExpiry order s = .next t) :
    Moves s t := by
  unfold execSilenceTimerExpiry at h
  refine carryOut_moves (fun u => ?_) h
  split
  · exact .refl
  · exact u.loseLink_moves.trans (Quiet.foldl State.holdForLink_quiet _ _).moves

theorem execGoBack_moves (h : execGoBack s = .next t) : Moves s t := by
  unfold execGoBack at h
  refine carryOut_moves (fun u => ?_) h
  dsimp only
  split
  · exact .refl
  have restart (l : Link) : Moves { u with link := l }
      { u with link := { l with resend := some u.device.live.resend } } :=
    LinkMove.moves (s := { u with link := l }) (.startResend _) rfl
  split
  · exact (Move.link .goBack).moves.trans (restart _)
  · exact restart _

theorem execTick_moves (h : execTick s = .next t) : Moves s t := by
  unfold execTick at h
  refine carryOut_moves (fun u => ?_) h
  split
  · exact .refl
  · next within => exact (Move.tick (by simpa using within)).moves

theorem execCycleStart_moves {order : List CycleEvent} (h : execCycleStart order s = .next t) : Moves s t := by
  unfold execCycleStart at h
  refine carryOut_moves (fun u => ?_) h
  split
  · exact u.startCycle_moves order
  · exact .refl

theorem execConversionCompletion_moves {code : BitVec 12} {order : List Nat}
    (h : execConversionCompletion code order s = .next t) : Moves s t := by
  unfold execConversionCompletion at h
  refine carryOut_moves (fun u => ?_) h
  repeat' split
  · exact .refl
  · exact .refl
  · exact (State.handleReading_moves _ _ _).trans (State.nextConversion_moves _ _ _)

theorem execStopSample_moves {high : Bool} (h : execStopSample high s = .next t) : Moves s t := by
  unfold execStopSample at h
  refine carryOut_moves (fun u => ?_) h
  have counted (stop : StopInput) : Quiet u { u with stop := stop } := ⟨rfl, rfl, rfl, rfl, [], rfl⟩
  dsimp only
  split
  · split
    · exact (Quiet.assertStop u).moves
    · exact (counted _).moves
  · exact (counted _).moves
  · split
    · exact ((counted _).trans (.submit _ _)).moves
    · exact (counted _).moves
  · exact (counted _).moves

theorem execReceivedByte_moves {b : Byte} (h : execReceivedByte b s = .next t) : Moves s t := by
  unfold execReceivedByte at h
  refine carryOut_moves (fun u => ?_) h
  dsimp only
  split
  · split
    · exact (LinkMove.receive (.collecting [])).moves rfl
    · exact .refl
  · exact u.collect_moves _

theorem execSoftReset_moves (h : execSoftReset s = .next t) : Moves s t := by
  cases h
  split
  · exact s.wake_moves.tail .softReset
  · exact s.wake_moves

/-! ## Every row -/

/-- Each row of the table is a sequence of moves: a request row as its block's work is, an event as its effect is. -/
theorem exec_moves {c : Instr} (h : exec c s = .next t) : Moves s t := by
  have request {block : State → Answer} {f : WireFrame} {ok : Bool} (hc : exec c s = s.carryOut (·.serve f ok block))
      (hb : BlockMoves block) : Moves s t := request_moves hb (hc ▸ h)
  have quiet {block : State → Answer} {f : WireFrame} {ok : Bool} (hc : exec c s = s.carryOut (·.serve f ok block))
      (hb : QuietBlock block) : Moves s t := request hc hb.blockMoves
  cases c with
  | ping => exact quiet rfl (quietBlock_ping _)
  | identify => exact quiet rfl quietBlock_identify
  | restart => exact request rfl blockMoves_restart
  | allStop => exact quiet rfl quietBlock_allStop
  | ackReports => exact request rfl (blockMoves_ackReports _)
  | deviceSet => exact quiet rfl (quietBlock_deviceSet _)
  | deviceGet => exact quiet rfl (quietBlock_deviceGet _)
  | deviceCommit => exact quiet rfl quietBlock_deviceCommit
  | progOpen => exact quiet rfl (quietBlock_progOpen _)
  | progAppend => exact quiet rfl (quietBlock_progAppend _)
  | progSeal => exact quiet rfl (quietBlock_progSeal _)
  | progDelete => exact quiet rfl (quietBlock_progDelete _)
  | progInfo => exact quiet rfl (quietBlock_progInfo _)
  | progRead => exact quiet rfl (quietBlock_progRead _)
  | zoneStart => exact quiet rfl (quietBlock_zoneStart _)
  | zoneAbort => exact quiet rfl (quietBlock_zoneAbort _)
  | zonePause => exact quiet rfl (quietBlock_zonePause _)
  | zoneResume => exact quiet rfl (quietBlock_zoneResume _)
  | zoneStep => exact quiet rfl (quietBlock_zoneStep _)
  | zoneSkip => exact quiet rfl (quietBlock_zoneSkip _)
  | zoneTrip => exact quiet rfl (quietBlock_zoneTrip _)
  | zoneClearTrip => exact quiet rfl (quietBlock_zoneClearTrip _)
  | zoneStatus => exact quiet rfl (quietBlock_zoneStatus _)
  | zoneSetParam => exact quiet rfl (quietBlock_zoneSetParam _)
  | zoneGetParam => exact quiet rfl (quietBlock_zoneGetParam _)
  | zoneCommit => exact quiet rfl (quietBlock_zoneCommit _)
  | zoneDiscard => exact quiet rfl (quietBlock_zoneDiscard _)
  | sensorSet => exact request rfl (blockMoves_sensorSet _)
  | sensorRead => exact quiet rfl (quietBlock_sensorRead _)
  | scanSet => exact request rfl (blockMoves_scanSet _)
  | scanGet => exact quiet rfl quietBlock_scanGet
  | retry => exact execRetry_moves h
  | unknownKind => exact execUnknownKind_moves h
  | goodFrame => exact execGoodFrame_moves h
  | frameCrc => exact carryOut_moves (fun u => u.hunt_countLoss_moves .crc) h
  | frameLength => exact carryOut_moves (fun u => u.hunt_countLoss_moves .length) h
  | frameGap => exact execFrameGap_moves h
  | silenceTimerExpiry => exact execSilenceTimerExpiry_moves h
  | goBack => exact execGoBack_moves h
  | frameSent =>
    cases h
    exact s.wake_moves.trans (State.endFrame_moves _)
  | softReset => exact execSoftReset_moves h
  | hardReset =>
    cases h
    exact (Move.hardReset _ _ _).moves
  | tick => exact execTick_moves h
  | cycleStart => exact execCycleStart_moves h
  | conversionCompletion => exact execConversionCompletion_moves h
  | stopSample => exact execStopSample_moves h
  | receivedByte => exact execReceivedByte_moves h

/-- Every step is a sequence of moves: an idle step is the choice of an IDLE transmitter. -/
theorem step_moves (h : step s = .next t) : Moves s t := by
  unfold step at h
  split at h
  · cases h
    exact s.wake_moves
  · next rest _ =>
    have dequeued : Quiet s { s with pending := rest } := ⟨rfl, rfl, rfl, rfl, [], rfl⟩
    exact dequeued.moves.trans (exec_moves h)

/-- A property that every move keeps is kept by every step. -/
theorem step_keeps {I : State → Prop} (hI : ∀ s t, Move s t → I s → I t) (h : step s = .next t) (hs : I s) : I t :=
  (step_moves h).keeps hI hs

end Sys2Proof.Machine
end

section
/-!
SUPPORT. What the moves of the link change of it, and the invariants that read TXD, the silence timer and the number of
places taken (R173, R179, R184, R192).
-/

namespace Sys2Proof.Machine

/-! ## What the moves of the link change -/

/-- A property of links that admission within a report's places keeps, and that does not read the lost count, is kept by
submission: a report is admitted, after a LOST report where reports were lost before, or is lost itself (R184, R185). -/
theorem Link.submit_keeps {P : Link → Prop}
    (queue : ∀ (l : Link) (r : Report), l.reports.length < r.places → P l → P (l.enqueue r))
    (recount : ∀ (l : Link) (n : Nat), P l → P { l with lost := n }) {l : Link} (h : P l) (r : Report) :
    P (l.submit r) := by
  unfold Link.submit
  split
  · split
    · next room => exact queue l r room h
    · exact recount _ _ h
  split
  · next room =>
    obtain ⟨place, places⟩ := room
    exact queue _ r (by simpa [Link.enqueue] using places) (recount _ 0 (queue l _ place h))
  split
  · next room =>
    obtain ⟨priority, place⟩ := room
    exact queue l r (by simpa [Report.places, priority] using place) h
  · exact recount _ _ h

theorem Link.foldl_submit_keeps {P : Link → Prop}
    (queue : ∀ (l : Link) (r : Report), l.reports.length < r.places → P l → P (l.enqueue r))
    (recount : ∀ (l : Link) (n : Nat), P l → P { l with lost := n }) {l : Link} (h : P l) (rs : List Report) :
    P (rs.foldl Link.submit l) :=
  List.foldlRecOn _ _ h fun _ k r _ => Link.submit_keeps queue recount k r

section
variable (l : Link) (d new : DeviceRec)

/-- An acknowledgement changes the report queue and the resend timer alone (R189). -/
theorem Link.ack_eq (n : Byte) :
    l.ack d n = { l with reports := (l.ack d n).reports, resend := (l.ack d n).resend } := by
  unfold Link.ack
  split <;> rfl

/-- The end of a report changes the report queue and the resend timer alone (R187, R188). -/
theorem Link.reportSent_eq (seq : Byte) (wentBack : Bool) :
    l.reportSent d seq wentBack = { l with
      reports := (l.reportSent d seq wentBack).reports, resend := (l.reportSent d seq wentBack).resend } := by
  unfold Link.reportSent
  dsimp only
  repeat' split
  all_goals rfl

/-- A new device record changes the report queue and the two timers alone (R191). -/
theorem Link.newDevice_eq :
    l.newDevice d new = { l with
      reports := (l.newDevice d new).reports, resend := (l.newDevice d new).resend
      silence := (l.newDevice d new).silence } := by
  unfold Link.newDevice
  dsimp only
  repeat' split
  all_goals rfl

/-- An acknowledged report and every older one leave, or nothing does (R189). -/
theorem Link.ack_reports (n : Byte) : (l.ack d n).reports = dropAcked n l.reports ∨ (l.ack d n).reports = l.reports := by
  unfold Link.ack
  split
  · exact .inl rfl
  · exact .inr rfl

/-- The report whose last byte has left leaves the queue, or is marked in its place (R187, R188). -/
theorem Link.reportSent_reports (seq : Byte) (wentBack : Bool) :
    (l.reportSent d seq wentBack).reports =
      if d.ack then
        l.reports.map (fun q => if q.seq = seq then { q with st := if wentBack then .due else .sent } else q)
      else l.reports.filter (fun q => decide (q.seq ≠ seq)) := by
  unfold Link.reportSent
  dsimp only
  repeat' split
  all_goals rfl

/-- The report queue under a new device record, by how acknowledgement changes (R191). -/
theorem Link.newDevice_reports :
    (l.newDevice d new).reports =
      if d.ack = true ∧ new.ack = false then l.reports.filter (fun q => decide (q.st = .fresh))
      else if d.ack = false ∧ new.ack = true then l.reports.map (fun q => { q with st := .fresh })
      else l.reports := by
  unfold Link.newDevice
  dsimp only
  repeat' split
  all_goals rfl

/-- A new device record touches the silence timer of a connected link alone (R191). -/
theorem Link.newDevice_silence : (l.newDevice d new).silence = l.silence ∨ l.connected = true := by
  unfold Link.newDevice
  dsimp only
  split
  · next changed => exact .inr changed.2
  · left
    repeat' split
    all_goals rfl

end

/-! ## TXD (R173) -/

theorem WireFrame.levels_eq (f : WireFrame) : f.levels = lineLevels f := rfl

/-- TXD follows the transmitter exactly when it shows the levels of what is sent. -/
theorem txdFollows_iff (s : State) : TxdFollows s ↔ s.link.txd = s.link.tx.levels := by
  unfold TxdFollows
  cases s.link.tx <;> simp [Transmitter.levels, WireFrame.levels_eq]

theorem Link.choose_txd (l : Link) (ack : Bool) : (l.choose ack).txd = (l.choose ack).tx.levels := by
  rw [l.choose_eq ack]

theorem Link.goBack_levels (l : Link) : l.goBack.tx.levels = l.tx.levels := by
  unfold Link.goBack
  cases l.tx <;> rfl

theorem LinkMove.txd {d : DeviceRec} {l l' : Link} (h : LinkMove d l l') (hl : l.txd = l.tx.levels) :
    l'.txd = l'.tx.levels := by
  cases h with
  | countLoss c => simpa using hl
  | wake => exact Link.wake_txd hl _
  | choose => exact l.choose_txd _
  | ack n => rw [l.ack_eq]; exact hl
  | goBack => exact hl.trans l.goBack_levels.symm
  | reportSent f w => rw [l.reportSent_eq]; exact hl
  | receive | restore | lose | join | take | reply | awaitReset | startResend | replySent => exact hl

theorem Move.txdFollows {s t : State} (h : Move s t) (hs : TxdFollows s) : TxdFollows t := by
  rw [txdFollows_iff] at hs ⊢
  have submitted (rs : List Report) : (rs.foldl Link.submit s.link).txd = (rs.foldl Link.submit s.link).tx.levels := by
    obtain ⟨-, -, -, -, -, -, tx, -, -, -, -, txd⟩ := (s.link.foldl_submit_onlyReports rs).keeps
    rw [tx, txd, hs]
  cases h with
  | quiet k => obtain ⟨rs, hrs⟩ := k.link; rw [hrs]; exact submitted rs
  | link k => exact k.txd hs
  | device d => dsimp only; rw [Link.newDevice_eq]; exact hs
  | pass order => obtain ⟨rs, hrs⟩ := s.takePending_submits order; rw [State.beginPass_link, hrs]; exact submitted rs
  | softReset | hardReset => rfl
  | sensor | list | convert | tick | cycle | drive => exact hs

/-! ## The silence timer (R192) -/

/-- The timer is stopped while the link is LOST. -/
def Link.StoppedWhenLost (l : Link) : Prop := l.connected = false → l.silence = none

theorem LinkMove.stoppedWhenLost {d : DeviceRec} {l l' : Link} (h : LinkMove d l l') (hl : l.StoppedWhenLost) :
    l'.StoppedWhenLost := by
  cases h with
  | countLoss c => simpa [Link.StoppedWhenLost] using hl
  | wake => simpa [Link.StoppedWhenLost] using hl
  | choose => rw [l.choose_eq]; exact hl
  | ack n => rw [l.ack_eq]; exact hl
  | reportSent f w => rw [l.reportSent_eq]; exact hl
  | restore => exact fun lost => by cases lost
  | lose => exact fun _ => rfl
  | goBack | receive | join | take | reply | awaitReset | startResend | replySent => exact hl

theorem Move.silenceStoppedWhenLost {s t : State} (h : Move s t) (hs : SilenceStoppedWhenLost s) :
    SilenceStoppedWhenLost t := by
  have submitted (rs : List Report) : (rs.foldl Link.submit s.link).StoppedWhenLost := by
    obtain ⟨-, -, -, -, -, -, -, -, -, connected, silence, -⟩ := (s.link.foldl_submit_onlyReports rs).keeps
    unfold Link.StoppedWhenLost
    rw [connected, silence]
    exact hs
  cases h with
  | quiet k => obtain ⟨rs, hrs⟩ := k.link; unfold SilenceStoppedWhenLost; rw [hrs]; exact submitted rs
  | link k => exact k.stoppedWhenLost hs
  | device d =>
    intro lost
    have was : s.link.connected = false := by
      rw [← lost]
      exact (congrArg Link.connected (s.link.newDevice_eq s.device.live d.live)).symm
    exact ((s.link.newDevice_silence _ _).resolve_right (by simp [was])).trans (hs was)
  | pass order =>
    obtain ⟨rs, hrs⟩ := s.takePending_submits order
    unfold SilenceStoppedWhenLost
    rw [State.beginPass_link, hrs]
    exact submitted rs
  | softReset | hardReset => exact fun lost => by cases lost
  | sensor | list | convert | tick | cycle | drive => exact hs

/-! ## The places of the queues (R179, R184) -/

/-- The report queue keeps its places: 32 in all, 28 of them for ordinary reports. -/
def Roomy (q : List Queued) : Prop := q.length ≤ 32 ∧ q.countP (fun q => !q.report.priority) ≤ 28

theorem Roomy.sublist {q q' : List Queued} (h : Roomy q) (sub : q'.Sublist q) : Roomy q' :=
  ⟨sub.length_le.trans h.1, (sub.countP_le).trans h.2⟩

/-- Marking reports in their places takes no place. -/
theorem Roomy.map {q : List Queued} (h : Roomy q) {f : Queued → Queued} (hf : ∀ x, (f x).report = x.report) :
    Roomy (q.map f) := by
  refine ⟨by simpa using h.1, ?_⟩
  rw [List.countP_map]
  simpa [Function.comp_def, hf] using h.2

theorem Roomy.enqueued {q : List Queued} (h : Roomy q) {x : Queued} (room : q.length < x.report.places) :
    Roomy (q ++ [x]) := by
  have ordinary := List.countP_le_length (p := fun q : Queued => !q.report.priority) (l := q)
  obtain ⟨-, bound⟩ := h
  unfold Report.places at room
  unfold Roomy
  cases priority : x.report.priority <;> simp [priority, Config.reportPlaces, Config.ordinaryPlaces] at room ⊢ <;> omega

/-- A change of one entry that a reading of the entries does not see. -/
theorem map_modify_same {α β : Type} {f : α → α} {g : α → β} (h : ∀ x, g (f x) = g x) (l : List α) (i : Nat) :
    (l.modify i f).map g = l.map g := by
  induction l generalizing i with
  | nil => cases i <;> simp
  | cons a l ih => cases i <;> simp [h, ih]

theorem Queued.addLoss_priority (c : LossCause) (q : Queued) : (q.addLoss c).report.priority = q.report.priority := by
  unfold Queued.addLoss
  split
  · next h => rw [h]; rfl
  · rfl

theorem Queued.addLoss_seq (c : LossCause) (q : Queued) : (q.addLoss c).seq = q.seq := by
  unfold Queued.addLoss
  split <;> rfl

theorem Queued.addLoss_st (c : LossCause) (q : Queued) : (q.addLoss c).st = q.st := by
  unfold Queued.addLoss
  split <;> rfl

theorem Roomy.addLoss {q : List Queued} (h : Roomy q) (i : Nat) (c : LossCause) :
    Roomy (q.modify i (Queued.addLoss c)) := by
  have same := map_modify_same (g := fun x : Queued => !x.report.priority)
    (fun x => by rw [Queued.addLoss_priority c x]) q i
  refine ⟨by simpa using h.1, ?_⟩
  have count (l : List Queued) : l.countP (fun x => !x.report.priority)
      = (l.map (fun x => !x.report.priority)).countP id := by
    rw [List.countP_map]
    rfl
  rw [count, same, ← count]
  exact h.2

/-- The three queues keep their places. -/
def Link.Bounded (l : Link) : Prop := l.rxQueue.length ≤ 4 ∧ l.replies.length ≤ 4 ∧ Roomy l.reports

theorem Link.Bounded.enqueue {l : Link} {r : Report} (room : l.reports.length < r.places) (h : l.Bounded) :
    (l.enqueue r).Bounded := ⟨h.1, h.2.1, h.2.2.enqueued room⟩

theorem Link.Bounded.submit {l : Link} (h : l.Bounded) (r : Report) : (l.submit r).Bounded :=
  Link.submit_keeps (fun _ _ => .enqueue) (fun _ _ k => k) h r

theorem Link.Bounded.foldl_submit {l : Link} (h : l.Bounded) (rs : List Report) : (rs.foldl Link.submit l).Bounded :=
  Link.foldl_submit_keeps (fun _ _ => .enqueue) (fun _ _ k => k) h rs

theorem dropAcked_suffix (n : Byte) (q : List Queued) : dropAcked n q <:+ q := by
  unfold dropAcked
  split
  · exact List.drop_suffix _ _
  · exact List.suffix_refl q

theorem LinkMove.bounded {d : DeviceRec} {l l' : Link} (h : LinkMove d l l') (hl : l.Bounded) : l'.Bounded := by
  obtain ⟨rx, replies, roomy⟩ := hl
  cases h with
  | countLoss c =>
    unfold Link.countLoss
    split
    · exact ⟨rx, replies, roomy.addLoss _ _⟩
    · exact Link.Bounded.submit ⟨rx, replies, roomy⟩ _
  | wake => simpa [Link.Bounded] using ⟨rx, replies, roomy⟩
  | choose => rw [l.choose_eq]; exact ⟨rx, replies, roomy⟩
  | join f room => exact ⟨by simpa using room, replies, roomy⟩
  | take => exact ⟨by simp; omega, replies, roomy⟩
  | reply f m room => exact ⟨rx, by simpa using room, roomy⟩
  | replySent => exact ⟨rx, by simp; omega, roomy⟩
  | ack n =>
    rw [l.ack_eq]
    refine ⟨rx, replies, ?_⟩
    rcases l.ack_reports d n with e | e
    · exact e ▸ roomy.sublist (dropAcked_suffix n _).sublist
    · exact e ▸ roomy
  | goBack => exact ⟨rx, replies, roomy.map fun x => by split <;> rfl⟩
  | reportSent f w =>
    rw [l.reportSent_eq]
    refine ⟨rx, replies, ?_⟩
    dsimp only
    rw [l.reportSent_reports]
    split
    · exact roomy.map fun x => by split <;> rfl
    · exact roomy.sublist List.filter_sublist
  | receive | restore | lose | awaitReset | startResend => exact ⟨rx, replies, roomy⟩

theorem Link.Bounded.newDevice {l : Link} (h : l.Bounded) (old new : DeviceRec) : (l.newDevice old new).Bounded := by
  obtain ⟨rx, replies, roomy⟩ := h
  rw [l.newDevice_eq]
  refine ⟨rx, replies, ?_⟩
  dsimp only
  rw [l.newDevice_reports]
  repeat' split
  · exact roomy.sublist List.filter_sublist
  · exact roomy.map fun _ => rfl
  · exact roomy

theorem Link.bounded_reset (rate : LinkRate) (cause : StartCause) : (Link.reset rate cause).Bounded :=
  ⟨by simp [Link.reset], by simp [Link.reset], by simp [Link.reset, Roomy, Report.priority]⟩

theorem Move.queuesBounded {s t : State} (h : Move s t) (hs : QueuesBounded s) : QueuesBounded t := by
  have bounded : s.link.Bounded := hs
  change t.link.Bounded
  cases h with
  | quiet k => obtain ⟨rs, hrs⟩ := k.link; rw [hrs]; exact bounded.foldl_submit rs
  | link k => exact k.bounded bounded
  | device d => exact bounded.newDevice _ _
  | pass order =>
    obtain ⟨rs, hrs⟩ := s.takePending_submits order
    rw [State.beginPass_link, hrs]
    exact bounded.foldl_submit rs
  | softReset => exact Link.bounded_reset s.link.rate .soft
  | hardReset rate cause => exact Link.bounded_reset rate cause
  | sensor | list | convert | tick | cycle | drive => exact bounded

end Sys2Proof.Machine
end

section
/-!
SUPPORT. The window of the report queue (R184, R186, R188): the numbers of the reports, those SENT or DUE ahead of the
NEW ones, and the age of the report in transmission; what each move of the link does to it.
-/

namespace Sys2Proof.Machine

/-! ## Numbers -/

/-- The reports carry successive numbers up to the last one given (R186). -/
def Numbered (next : Byte) (q : List Queued) : Prop :=
  ∀ older x newer, q = older ++ x :: newer → x.seq = next - BitVec.ofNat 8 (newer.length + 1)

theorem Numbered.enqueued {next : Byte} {q : List Queued} (h : Numbered next q) (r : Report) :
    Numbered (next + 1) (q ++ [⟨next, r, .fresh⟩]) := by
  intro older x newer e
  rcases List.eq_nil_or_concat' newer with rfl | ⟨newer, y, rfl⟩
  · obtain ⟨-, e⟩ := List.append_inj' e rfl
    cases e
    simp
  · rw [← List.cons_append, ← List.append_assoc] at e
    have front : q = older ++ x :: newer := (List.append_inj' e rfl).1
    rw [h older x newer front]
    simp only [List.length_append, List.length_singleton]
    bv_omega

theorem Numbered.suffix {next : Byte} {q q' : List Queued} (h : Numbered next q) (suffix : q' <:+ q) :
    Numbered next q' := by
  obtain ⟨front, rfl⟩ := suffix
  intro older x newer e
  exact h (front ++ older) x newer (by rw [e, List.append_assoc])

/-- The numbers alone count. -/
theorem Numbered.of_seqs {next : Byte} {q q' : List Queued} (h : Numbered next q)
    (same : q'.map (·.seq) = q.map (·.seq)) : Numbered next q' := by
  intro older x newer e
  rw [e, List.map_append, List.map_cons] at same
  obtain ⟨older', rest, rfl, -, hrest⟩ := List.map_eq_append_iff.1 same.symm
  obtain ⟨x', newer', rfl, hx, hnewer⟩ := List.map_eq_cons_iff.1 hrest
  rw [← hx, h older' x' newer' rfl, ← List.length_map (f := (·.seq)), hnewer, List.length_map]

/-- How long ago a number was given: 1 for the last one. -/
def age (next seq : Byte) : Nat := (next - seq).toNat

theorem age_succ {next seq : Byte} (h : age next seq < 255) : age (next + 1) seq = age next seq + 1 := by
  unfold age at *
  bv_omega

/-- A report's age is its place counted from the newest, among at most 32 (R184, R186). -/
theorem Numbered.age_eq {next : Byte} {q older newer : List Queued} {x : Queued} (h : Numbered next q)
    (room : q.length ≤ 32) (e : q = older ++ x :: newer) : age next x.seq = newer.length + 1 := by
  have place : newer.length + 1 ≤ 32 := by
    rw [e] at room
    simp at room
    omega
  unfold age
  rw [h older x newer e]
  bv_omega

/-- A report carries a number exactly where it stands at that number's place. -/
theorem Numbered.seq_eq_iff {next seq : Byte} {q older newer : List Queued} {x : Queued} (h : Numbered next q)
    (room : q.length ≤ 32) (e : q = older ++ x :: newer) : x.seq = seq ↔ age next seq = newer.length + 1 := by
  have place := h.age_eq room e
  unfold age at *
  bv_omega

/-! ## The window -/

/-- Where the report in transmission stands, by the numbers of waiting and of NEW reports and by its age (R188): it is
the oldest NEW one, whose place in the window is free, or is older than the NEW ones by at most 8. -/
structure InWindow (waiting new age : Nat) : Prop where
  given : 1 ≤ age
  notNewer : new ≤ age
  near : age ≤ new + 8
  free : age = new → waiting < 8

/-- The queue of reports is those SENT or DUE, at most 8 and none with acknowledgement off, and then the NEW ones. -/
structure Link.Window (l : Link) (ack : Bool) (waiting new : List Queued) : Prop where
  reports : l.reports = waiting ++ new
  waits : ∀ q ∈ waiting, q.st ≠ .fresh
  fresh : ∀ q ∈ new, q.st = .fresh
  numbered : Numbered l.nextSeq l.reports
  full : waiting.length ≤ 8
  off : ack = false → waiting = []
  sending : ∀ f w, l.tx = .report f w → InWindow waiting.length new.length (age l.nextSeq f.seq)

section
variable {l l' : Link} {a : Bool} {waiting new : List Queued}

theorem countP_waiting (waits : ∀ q ∈ waiting, q.st ≠ .fresh) (fresh : ∀ q ∈ new, q.st = .fresh) :
    (waiting ++ new).countP (fun q => decide (q.st ≠ .fresh)) = waiting.length := by
  rw [List.countP_append, List.countP_eq_length.2 (by simpa using waits), List.countP_eq_zero.2 (by simpa using fresh)]
  rfl

theorem countP_fresh (waits : ∀ q ∈ waiting, q.st ≠ .fresh) (fresh : ∀ q ∈ new, q.st = .fresh) :
    (waiting ++ new).countP (fun q => decide (q.st = .fresh)) = new.length := by
  rw [List.countP_append, List.countP_eq_zero.2 (by simpa using waits), List.countP_eq_length.2 (by simpa using fresh),
    Nat.zero_add]

theorem Link.Window.waitingCount_eq (h : l.Window a waiting new) : waitingCount l = waiting.length := by
  unfold waitingCount
  rw [h.reports]
  exact countP_waiting h.waits h.fresh

theorem Link.Window.newCount_eq (h : l.Window a waiting new) : newCount l = new.length := by
  unfold newCount
  rw [h.reports]
  exact countP_fresh h.waits h.fresh

/-- A queue in which no report that waits comes after a NEW one is cut in two. -/
theorem exists_waiting_fresh (q : List Queued)
    (ahead : ∀ older x newer, q = older ++ x :: newer → x.st = .fresh → ∀ y ∈ newer, y.st = .fresh) :
    ∃ waiting new, q = waiting ++ new ∧ (∀ x ∈ waiting, x.st ≠ .fresh) ∧ ∀ x ∈ new, x.st = .fresh := by
  induction q with
  | nil => exact ⟨[], [], rfl, by simp, by simp⟩
  | cons x q ih =>
    by_cases hx : x.st = .fresh
    · exact ⟨[], x :: q, rfl, by simp, by simpa [hx] using ahead [] x q rfl hx⟩
    · obtain ⟨waiting, new, rfl, waits, fresh⟩ := ih fun older y newer e => ahead (x :: older) y newer (by rw [e]; rfl)
      exact ⟨x :: waiting, new, rfl, by simpa [hx] using waits, fresh⟩

/-- A report of the queue is one of the NEW ones or one of those that wait. -/
theorem cut_at (waits : ∀ q ∈ waiting, q.st ≠ .fresh) (fresh : ∀ q ∈ new, q.st = .fresh) {older newer : List Queued}
    {x : Queued} (e : waiting ++ new = older ++ x :: newer) :
    (x.st = .fresh ∧ ∃ front, older = waiting ++ front ∧ new = front ++ x :: newer)
    ∨ (x.st ≠ .fresh ∧ ∃ back, waiting = older ++ x :: back ∧ newer = back ++ new) := by
  have inNew (front : List Queued) (ho : older = waiting ++ front) (hn : new = front ++ x :: newer) :
      x.st = .fresh ∧ ∃ front, older = waiting ++ front ∧ new = front ++ x :: newer :=
    ⟨fresh x (by rw [hn]; simp), front, ho, hn⟩
  rcases List.append_eq_append_iff.1 e with ⟨front, ho, hn⟩ | ⟨back, hw, hn⟩
  · exact .inl (inNew front ho hn)
  · cases back with
    | nil => exact .inl (inNew [] (by simpa using hw.symm) hn.symm)
    | cons y back =>
      obtain ⟨rfl, rfl⟩ := List.cons.inj hn
      exact .inr ⟨waits x (by rw [hw]; simp), back, hw, rfl⟩

/-- The invariant on the window says that there is such a cut. -/
theorem windowKept_iff (s : State) :
    WindowKept s ↔ ∃ waiting new, s.link.Window s.device.live.ack waiting new := by
  constructor
  · rintro ⟨numbered, ahead, full, off, sending⟩
    obtain ⟨waiting, new, e, waits, fresh⟩ := exists_waiting_fresh _ ahead
    have w : waitingCount s.link = waiting.length := by unfold waitingCount; rw [e]; exact countP_waiting waits fresh
    have n : newCount s.link = new.length := by unfold newCount; rw [e]; exact countP_fresh waits fresh
    refine ⟨waiting, new, e, waits, fresh, numbered, w ▸ full, fun h => List.length_eq_zero_iff.1 (w ▸ off h), ?_⟩
    intro f b h
    obtain ⟨given, notNewer, near, free⟩ := sending f b h
    exact ⟨given, n ▸ notNewer, n ▸ near, w ▸ n ▸ free⟩
  · rintro ⟨waiting, new, h⟩
    refine ⟨h.numbered, fun older x newer e hx y hy => ?_, ?_, fun off => ?_, fun f b hf => ?_⟩
    · rcases cut_at h.waits h.fresh (h.reports.symm.trans e) with ⟨-, front, -, hn⟩ | ⟨old, -⟩
      · exact h.fresh y (by rw [hn]; simp [hy])
      · exact absurd hx old
    · rw [h.waitingCount_eq]
      exact h.full
    · rw [h.waitingCount_eq, h.off off]
      rfl
    · obtain ⟨given, notNewer, near, free⟩ := h.sending f b hf
      rw [h.waitingCount_eq, h.newCount_eq]
      exact ⟨given, notNewer, near, free⟩

/-! ## What the moves do to the window -/

/-- The window reads the report queue, the last number and the transmitter. -/
theorem Link.Window.congr (h : l.Window a waiting new) (reports : l'.reports = l.reports)
    (nextSeq : l'.nextSeq = l.nextSeq) (tx : l'.tx = l.tx) : l'.Window a waiting new := by
  obtain ⟨cut, waits, fresh, numbered, full, off, sending⟩ := h
  exact ⟨reports.trans cut, waits, fresh, by rwa [nextSeq, reports], full, off, by rwa [tx, nextSeq]⟩

/-- The links whose queues keep their places and whose window is kept. -/
def Link.Kept (a : Bool) (l : Link) : Prop := l.Bounded ∧ ∃ waiting new, l.Window a waiting new

/-- A report admitted is the newest NEW one (R184, R186). -/
theorem Link.Kept.enqueue {r : Report} (room : l.reports.length < r.places) (h : l.Kept a) : (l.enqueue r).Kept a := by
  obtain ⟨bounded, waiting, new, cut, waits, fresh, numbered, full, off, sending⟩ := h
  refine ⟨bounded.enqueue room, waiting, new ++ [⟨l.nextSeq, r, .fresh⟩], ?_, waits, ?_, numbered.enqueued r, full, off, ?_⟩
  · simp [Link.enqueue, cut]
  · intro q hq
    rcases List.mem_append.1 hq with hq | hq
    · exact fresh q hq
    · rw [List.mem_singleton.1 hq]
  · intro f w hf
    obtain ⟨given, notNewer, near, free⟩ := sending f w hf
    have places : new.length ≤ 32 := by
      have := bounded.2.2.1
      rw [cut, List.length_append] at this
      omega
    have later : age (l.enqueue r).nextSeq f.seq = age l.nextSeq f.seq + 1 := age_succ (by omega)
    rw [later]
    exact ⟨by omega, by simpa using notNewer, by simp; omega, by simpa using free⟩

theorem Link.Kept.recount (h : l.Kept a) (n : Nat) : ({ l with lost := n } : Link).Kept a := by
  obtain ⟨bounded, waiting, new, window⟩ := h
  exact ⟨bounded, waiting, new, window.congr rfl rfl rfl⟩

theorem Link.Kept.submit (h : l.Kept a) (r : Report) : (l.submit r).Kept a :=
  Link.submit_keeps (fun _ _ => .enqueue) (fun _ n k => k.recount n) h r

theorem Link.Kept.foldl_submit (h : l.Kept a) (rs : List Report) : (rs.foldl Link.submit l).Kept a :=
  Link.foldl_submit_keeps (fun _ _ => .enqueue) (fun _ n k => k.recount n) h rs

/-- Reports marked in their places, those that wait still waiting and the NEW ones still NEW. -/
theorem Link.Window.remark {q : List Queued} (h : l.Window a waiting new)
    (seqs : q.map (·.seq) = l.reports.map (·.seq))
    (fresh : q.map (fun x => decide (x.st = .fresh)) = l.reports.map (fun x => decide (x.st = .fresh))) :
    ∃ waiting' new', ({ l with reports := q } : Link).Window a waiting' new' := by
  obtain ⟨cut, waits, isFresh, numbered, full, off, sending⟩ := h
  rw [cut, List.map_append] at fresh
  obtain ⟨waiting', new', rfl, hw, hn⟩ := List.map_eq_append_iff.1 fresh
  have lw : waiting'.length = waiting.length := by simpa using congrArg List.length hw
  have ln : new'.length = new.length := by simpa using congrArg List.length hn
  refine ⟨waiting', new', rfl, fun x hx => ?_, fun x hx => ?_, numbered.of_seqs seqs, lw ▸ full, fun h => ?_, ?_⟩
  · have : decide (x.st = .fresh) ∈ waiting.map (fun x => decide (x.st = .fresh)) := hw ▸ List.mem_map_of_mem hx
    obtain ⟨y, hy, e⟩ := List.mem_map.1 this
    simpa [waits y hy] using e
  · have : decide (x.st = .fresh) ∈ new.map (fun x => decide (x.st = .fresh)) := hn ▸ List.mem_map_of_mem hx
    obtain ⟨y, hy, e⟩ := List.mem_map.1 this
    simpa [isFresh y hy] using e
  · rw [off h] at lw
    exact List.length_eq_zero_iff.1 lw
  · rw [lw, ln]
    exact sending

/-- The oldest of the reports that wait leave: the NEW ones and their numbers stay (R189, R191). -/
theorem Link.Window.dropWaiting (h : l.Window a waiting new) (n : Nat) :
    ({ l with reports := waiting.drop n ++ new } : Link).Window a (waiting.drop n) new := by
  obtain ⟨cut, waits, fresh, numbered, full, off, sending⟩ := h
  have suffix : waiting.drop n ++ new <:+ l.reports :=
    ⟨waiting.take n, by rw [cut, ← List.append_assoc, List.take_append_drop]⟩
  refine ⟨rfl, fun q hq => waits q (List.mem_of_mem_drop hq), fresh, numbered.suffix suffix, ?_, fun h => ?_, ?_⟩
  · rw [List.length_drop]
    omega
  · rw [off h, List.drop_nil]
  · intro f w hf
    obtain ⟨given, notNewer, near, free⟩ := sending f w hf
    refine ⟨given, notNewer, near, fun h => ?_⟩
    have := free h
    rw [List.length_drop]
    omega

/-- What an acknowledgement removes is among the reports that wait (R189). -/
theorem dropAcked_cut (fresh : ∀ q ∈ new, q.st = .fresh) (n : Byte) :
    ∃ k, dropAcked n (waiting ++ new) = waiting.drop k ++ new := by
  unfold dropAcked
  split
  · next i found =>
    obtain ⟨hi, acked, -⟩ := List.findIdx?_eq_some_iff_getElem.1 found
    have inside : i < waiting.length := by
      by_contra beyond
      rw [List.getElem_append_right (by omega)] at acked
      have := fresh _ (List.getElem_mem (l := new) (n := i - waiting.length) (by simp at hi; omega))
      simp [this] at acked
    exact ⟨i + 1, by rw [List.drop_append_of_le_length (by omega)]⟩
  · exact ⟨0, rfl⟩

/-- The report that the queue offers stands in the window (R187, R188). -/
theorem Link.Window.eligible (h : l.Window a waiting new) (room : l.reports.length ≤ 32) {q : Queued}
    (offered : l.eligible a = some q) : InWindow waiting.length new.length (age l.nextSeq q.frame.seq) := by
  change InWindow _ _ (age l.nextSeq q.seq)
  have length : l.reports.length = waiting.length + new.length := by rw [h.reports, List.length_append]
  have full := h.full
  unfold Link.eligible at offered
  cases a with
  | false =>
    rw [if_neg (by decide)] at offered
    obtain ⟨rest, e⟩ := List.head?_eq_some_iff.1 offered
    rw [h.numbered.age_eq (older := []) room e]
    have count : new.length = rest.length + 1 := by
      rw [h.off rfl] at length
      rw [e, List.length_cons] at length
      simpa using length.symm
    exact ⟨by omega, by omega, by omega, fun _ => by rw [h.off rfl]; decide⟩
  | true =>
    rw [if_pos rfl] at offered
    split at offered
    · next x due =>
      obtain rfl := Option.some.inj offered
      obtain ⟨isDue, older, newer, e, -⟩ := List.find?_eq_some_iff_append.1 due
      have hx : x.st = .due := by simpa using isDue
      rw [h.numbered.age_eq room e]
      rcases cut_at h.waits h.fresh (h.reports.symm.trans e) with ⟨hf, -⟩ | ⟨-, back, -, rfl⟩
      · rw [hx] at hf
        cases hf
      rw [List.length_append]
      have bound : (back ++ new).length + 1 ≤ l.reports.length := by rw [e]; simp
      rw [List.length_append] at bound
      exact ⟨by omega, by omega, by omega, fun _ => by omega⟩
    · split at offered
      · next free =>
        have free : waiting.length < 8 := by
          rw [← h.waitingCount_eq]
          exact free
        obtain ⟨isNew, older, newer, e, before⟩ := List.find?_eq_some_iff_append.1 offered
        have hq : q.st = .fresh := by simpa using isNew
        rw [h.numbered.age_eq room e]
        rcases cut_at h.waits h.fresh (h.reports.symm.trans e) with ⟨-, front, ho, hn⟩ | ⟨old, -⟩
        · have none : front = [] := List.eq_nil_iff_forall_not_mem.2 fun y hy => by
            have := before y (by rw [ho]; simp [hy])
            simp [h.fresh y (by rw [hn]; simp [hy])] at this
          have count : new.length = newer.length + 1 := by rw [hn, none]; rfl
          exact ⟨by omega, by omega, by omega, fun _ => free⟩
        · exact absurd hq old
      · cases offered

/-- The arbiter's choice takes up a report only where the queue offers it (R183). -/
theorem Link.choose_tx (l : Link) (a : Bool) {f : WireFrame} {w : Bool} (h : (l.choose a).tx = .report f w) :
    ∃ q, l.eligible a = some q ∧ q.frame = f := by
  unfold Link.choose at h
  repeat' split at h
  all_goals simp only [Link.transmit_tx, reduceCtorEq, Transmitter.report.injEq] at h
  all_goals exact ⟨_, by assumption, h.1⟩

theorem Link.Kept.choose (h : l.Kept a) : (l.choose a).Kept a := by
  obtain ⟨bounded, waiting, new, window⟩ := h
  refine ⟨by rw [l.choose_eq]; exact bounded, waiting, new, ?_⟩
  have reports : (l.choose a).reports = l.reports := by rw [l.choose_eq]
  have nextSeq : (l.choose a).nextSeq = l.nextSeq := by rw [l.choose_eq]
  refine ⟨reports.trans window.reports, window.waits, window.fresh, by rw [reports, nextSeq]; exact window.numbered,
    window.full, window.off, fun f w hf => ?_⟩
  obtain ⟨q, offered, rfl⟩ := l.choose_tx a hf
  rw [nextSeq]
  exact window.eligible bounded.2.2.1 offered

end

end Sys2Proof.Machine
end

section
/-!
SUPPORT. Every move keeps the window of the report queue (R184, R186 to R191).
-/

namespace Sys2Proof.Machine

section
variable {l : Link} {a : Bool} {waiting new : List Queued} {f : WireFrame} {w : Bool}

/-! ## The end of a report -/

/-- Whether the report whose last byte has left is NEW in the queue: then it is the oldest NEW one (R187, R188). -/
theorem Link.Window.sent_cases (h : l.Window a waiting new) (room : l.reports.length ≤ 32)
    (sending : l.tx = .report f w) :
    (∃ q rest, new = q :: rest ∧ age l.nextSeq f.seq = rest.length + 1 ∧ q.seq = f.seq ∧ ∀ x ∈ rest, x.seq ≠ f.seq)
    ∨ ∀ x ∈ new, x.seq ≠ f.seq := by
  obtain ⟨given, notNewer, -, -⟩ := h.sending f w sending
  have seq (older newer : List Queued) (x : Queued) (e : new = older ++ x :: newer) :
      x.seq = f.seq ↔ age l.nextSeq f.seq = newer.length + 1 :=
    h.numbered.seq_eq_iff room (older := waiting ++ older) (by rw [h.reports, e, List.append_assoc])
  by_cases oldest : age l.nextSeq f.seq = new.length
  · cases new with
    | nil => simp at oldest; omega
    | cons q rest =>
      refine .inl ⟨q, rest, rfl, by simpa using oldest, (seq [] rest q rfl).2 (by simpa using oldest), fun x hx => ?_⟩
      obtain ⟨older, newer, rfl⟩ := List.append_of_mem hx
      rw [ne_eq, seq (q :: older) newer x rfl]
      simp at oldest
      omega
  · refine .inr fun x hx => ?_
    obtain ⟨older, newer, rfl⟩ := List.append_of_mem hx
    rw [ne_eq, seq older newer x rfl]
    simp at notNewer oldest
    omega

/-- A report older than the NEW ones by one stands in the window. -/
theorem inWindow_succ (waiting new : Nat) : InWindow waiting new (new + 1) :=
  ⟨by omega, by omega, by omega, fun h => by omega⟩

/-- The oldest NEW report, in transmission, becomes one that waits (R188). -/
theorem Link.Window.promote {q x : Queued} {rest marked : List Queued} (h : l.Window true waiting (q :: rest))
    (sending : l.tx = .report f w) (oldest : age l.nextSeq f.seq = rest.length + 1) (hx : x.st ≠ .fresh)
    (seq : x.seq = q.seq) (waits : ∀ y ∈ marked, y.st ≠ .fresh) (seqs : marked.map (·.seq) = waiting.map (·.seq)) :
    ({ l with reports := marked ++ x :: rest } : Link).Window true (marked ++ [x]) rest := by
  have free := (h.sending f w sending).free oldest
  have length : marked.length = waiting.length := by simpa using congrArg List.length seqs
  refine ⟨by simp, fun y hy => ?_, fun y hy => h.fresh y (List.mem_cons_of_mem _ hy), h.numbered.of_seqs ?_, ?_,
    fun off => (by cases off), fun f' w' hf => ?_⟩
  · rcases List.mem_append.1 hy with hy | hy
    · exact waits y hy
    · rwa [List.mem_singleton.1 hy]
  · simp [h.reports, seqs, seq]
  · simp
    omega
  · obtain ⟨rfl, -⟩ := Transmitter.report.inj (sending.symm.trans hf)
    dsimp only
    rw [oldest]
    exact inWindow_succ _ _

/-- With acknowledgement on the report becomes SENT or DUE where it stands (R188). -/
theorem Link.Window.markSent (h : l.Window true waiting new) (room : l.reports.length ≤ 32)
    (sending : l.tx = .report f w) {st : AckState} (hst : st ≠ .fresh) :
    ∃ waiting' new', ({ l with
      reports := l.reports.map (fun q => if q.seq = f.seq then { q with st := st } else q) } : Link).Window true
        waiting' new' := by
  generalize hg : (fun q : Queued => if q.seq = f.seq then { q with st := st } else q) = g
  have seq (q : Queued) : (g q).seq = q.seq := by subst hg; dsimp only; split <;> rfl
  have waits (q : Queued) (hq : q.st ≠ .fresh) : (g q).st ≠ .fresh := by
    subst hg
    dsimp only
    split
    · exact hst
    · exact hq
  have other (q : Queued) (hq : q.seq ≠ f.seq) : g q = q := by subst hg; exact if_neg hq
  have old : ∀ y ∈ waiting.map g, y.st ≠ .fresh := by
    rintro y hy
    obtain ⟨x, hx, rfl⟩ := List.mem_map.1 hy
    exact waits x (h.waits x hx)
  have seqs (q : List Queued) : (q.map g).map (·.seq) = q.map (·.seq) := by simp [Function.comp_def, seq]
  rcases h.sent_cases room sending with ⟨q, rest, rfl, oldest, hq, later⟩ | none
  · refine ⟨waiting.map g ++ [g q], rest, ?_⟩
    have same : rest.map g = rest := (List.map_congr_left fun x hx => other x (later x hx)).trans (List.map_id' _)
    rw [h.reports, List.map_append, List.map_cons, same]
    exact h.promote sending oldest (by subst hg; simp [hq, hst]) (seq q) old (seqs waiting)
  · refine h.remark (seqs _) ?_
    have fresh : ∀ x ∈ l.reports, decide ((g x).st = .fresh) = decide (x.st = .fresh) := by
      rw [h.reports]
      intro x hx
      rcases List.mem_append.1 hx with hx | hx
      · simp [waits x (h.waits x hx), h.waits x hx]
      · rw [other x (none x hx)]
    rw [List.map_map]
    exact List.map_congr_left fresh

/-- With acknowledgement off the report leaves the queue (R187). -/
theorem Link.Window.dropSent (h : l.Window false waiting new) (room : l.reports.length ≤ 32)
    (sending : l.tx = .report f w) :
    ∃ new', ({ l with reports := l.reports.filter (fun q => decide (q.seq ≠ f.seq)) } : Link).Window false [] new' := by
  obtain rfl := h.off rfl
  have all (q : List Queued) (hq : ∀ x ∈ q, x.seq ≠ f.seq) : q.filter (fun q => decide (q.seq ≠ f.seq)) = q :=
    List.filter_eq_self.2 fun x hx => by simpa using hq x hx
  rw [h.reports, List.nil_append]
  rcases h.sent_cases room sending with ⟨q, rest, rfl, oldest, hq, later⟩ | none
  · refine ⟨rest, ?_⟩
    rw [List.filter_cons_of_neg (by simpa using hq), all rest later]
    refine ⟨rfl, by simp, fun y hy => h.fresh y (List.mem_cons_of_mem _ hy), h.numbered.suffix ⟨[q], ?_⟩, by simp,
      fun _ => rfl, fun f' w' hf => ?_⟩
    · rw [h.reports]; rfl
    · obtain ⟨rfl, -⟩ := Transmitter.report.inj (sending.symm.trans hf)
      dsimp only
      rw [oldest]
      exact inWindow_succ _ _
  · refine ⟨new, ?_⟩
    rw [all new none]
    exact { h with reports := rfl, numbered := by simpa [h.reports] using h.numbered }

/-! ## Moves -/

/-- A frame lost and counted in a report of the queue changes no number and no mark (R178). -/
theorem Link.Kept.countLoss (h : l.Kept a) (c : LossCause) : (l.countLoss c).Kept a := by
  unfold Link.countLoss
  split
  · obtain ⟨⟨rx, replies, roomy⟩, waiting, new, window⟩ := h
    exact ⟨⟨rx, replies, roomy.addLoss _ c⟩, window.remark (map_modify_same (Queued.addLoss_seq c) _ _)
      (map_modify_same (fun x => by rw [Queued.addLoss_st c x]) _ _)⟩
  · exact h.submit _

/-- A go-back marks the reports that wait, and leaves them waiting (R190). -/
theorem Link.Window.goBack (h : l.Window a waiting new) : ∃ waiting' new', l.goBack.Window a waiting' new' := by
  have seqs : l.goBack.reports.map (·.seq) = l.reports.map (·.seq) := by
    simp only [Link.goBack, List.map_map]
    exact List.map_congr_left fun x _ => by simp only [Function.comp_apply]; split <;> rfl
  have fresh : l.goBack.reports.map (fun x => decide (x.st = .fresh)) = l.reports.map (fun x => decide (x.st = .fresh)) := by
    simp only [Link.goBack, List.map_map]
    exact List.map_congr_left fun x _ => by by_cases hx : x.st = .fresh <;> simp [hx]
  obtain ⟨waiting', new', cut, waits, isFresh, numbered, full, off, sending⟩ := h.remark seqs fresh
  refine ⟨waiting', new', cut, waits, isFresh, numbered, full, off, fun f w hf => ?_⟩
  unfold Link.goBack at hf
  dsimp only at hf
  split at hf
  · next f' w' was =>
    obtain ⟨rfl, -⟩ := Transmitter.report.inj hf
    exact sending f' w' was
  · next idle => exact absurd hf (idle f w)

theorem LinkMove.kept {d : DeviceRec} {l' : Link} (h : LinkMove d l l') (hl : l.Kept d.ack) : l'.Kept d.ack := by
  refine ⟨h.bounded hl.1, ?_⟩
  obtain ⟨bounded, waiting, new, window⟩ := id hl
  cases h with
  | countLoss c => exact (hl.countLoss c).2
  | wake =>
    unfold Link.wake
    split
    · exact hl.choose.2
    · exact hl.2
  | choose => exact hl.choose.2
  | ack n =>
    rw [l.ack_eq]
    rcases l.ack_reports d n with e | e
    · obtain ⟨k, hk⟩ := dropAcked_cut window.fresh n (waiting := waiting)
      rw [e, window.reports, hk]
      exact ⟨_, _, (window.dropWaiting k).congr rfl rfl rfl⟩
    · rw [e]
      exact ⟨_, _, window.congr rfl rfl rfl⟩
  | goBack => exact window.goBack
  | reportSent f w sending =>
    rw [l.reportSent_eq, l.reportSent_reports]
    cases acks : d.ack with
    | true =>
      rw [acks] at window
      obtain ⟨_, _, marked⟩ := window.markSent bounded.2.2.1 sending (st := if w then .due else .sent) (by cases w <;> simp)
      exact ⟨_, _, marked.congr rfl rfl rfl⟩
    | false =>
      rw [acks] at window
      obtain ⟨_, dropped⟩ := window.dropSent bounded.2.2.1 sending
      exact ⟨_, _, dropped.congr rfl rfl rfl⟩
  | receive | restore | lose | join | take | reply | awaitReset | startResend | replySent =>
    exact ⟨_, _, window.congr rfl rfl rfl⟩

/-- Acknowledgement turned off removes the reports that wait; turned on, it finds none (R191). -/
theorem Link.Kept.newDevice {old new : DeviceRec} (h : l.Kept old.ack) : (l.newDevice old new).Kept new.ack := by
  obtain ⟨bounded, waiting, news, window⟩ := h
  refine ⟨bounded.newDevice old new, ?_⟩
  rw [l.newDevice_eq, l.newDevice_reports]
  cases was : old.ack <;> cases becomes : new.ack <;> rw [was] at window
  · simp only [Bool.false_eq_true, false_and, and_false, if_false]
    exact ⟨_, _, window.congr rfl rfl rfl⟩
  · obtain rfl := window.off rfl
    have same : l.reports.map (fun q => { q with st := .fresh }) = l.reports := by
      rw [window.reports]
      refine (List.map_congr_left fun q hq => ?_).trans (List.map_id' _)
      rw [← window.fresh q hq]
    simp only [Bool.false_eq_true, false_and, true_and, if_false, if_true]
    rw [same]
    exact ⟨_, _, { window with off := fun _ => rfl }⟩
  · have gone : l.reports.filter (fun q => decide (q.st = .fresh)) = waiting.drop waiting.length ++ news := by
      rw [window.reports, List.filter_append, List.filter_eq_nil_iff.2 (by simpa using window.waits),
        List.filter_eq_self.2 (by simpa using window.fresh), List.drop_length]
    simp only [true_and, if_true]
    rw [gone]
    obtain ⟨cut, waits, fresh, numbered, full, -, sending⟩ := window.dropWaiting waiting.length
    exact ⟨_, _, cut, waits, fresh, numbered, full, fun _ => List.drop_length, sending⟩
  · simp only [Bool.true_eq_false, and_false, false_and, if_false]
    exact ⟨_, _, window.congr rfl rfl rfl⟩

/-- After a reset STARTED alone is queued, NEW, and nothing is in transmission (R194, R196). -/
theorem Link.kept_reset (rate : LinkRate) (cause : StartCause) (silence : Option Nat) (a : Bool) :
    ({ Link.reset rate cause with silence := silence } : Link).Kept a := by
  refine ⟨Link.bounded_reset rate cause, [], [⟨0, .started cause, .fresh⟩], rfl, by simp, by simp, ?_, by simp,
    fun _ => rfl, fun f w h => by cases h⟩
  intro older x newer e
  have one : older = [] ∧ newer = [] := by
    have := congrArg List.length e
    simp [Link.reset] at this
    exact ⟨List.length_eq_zero_iff.1 (by omega), List.length_eq_zero_iff.1 (by omega)⟩
  obtain ⟨rfl, rfl⟩ := one
  cases e
  simp [Link.reset]

end

/-- Every move keeps the window, with the queues in their places. -/
theorem Move.windowKept {s t : State} (h : Move s t) (hs : s.link.Kept s.device.live.ack) :
    t.link.Kept t.device.live.ack := by
  cases h with
  | quiet k => obtain ⟨rs, hrs⟩ := k.link; rw [hrs, k.live]; exact hs.foldl_submit rs
  | link k => exact k.kept hs
  | device d => exact hs.newDevice
  | pass order =>
    obtain ⟨rs, hrs⟩ := s.takePending_submits order
    obtain ⟨-, -, -, -, device, -⟩ := s.takePending_keeps order
    rw [State.beginPass_link, hrs, State.beginPass_device, device]
    exact hs.foldl_submit rs
  | softReset => exact Link.kept_reset _ _ _ _
  | hardReset rate cause => exact Link.kept_reset rate cause (some 20) _
  | sensor | list | convert | tick | cycle | drive => exact hs

end Sys2Proof.Machine
end

section
/-!
The invariants of the link, of the scan and of the cycle (R88, R89, R130, R131, R173 to R192): each move keeps them, so
every step does.
-/

namespace Sys2Proof.Machine

/-! ## The scan (R88, R89) -/

/-- The converter is IDLE, or converts an entry of the live list. -/
def Scan.Converts (c : Scan) : Prop := (c.converting = none ↔ c.live = []) ∧ ∀ k, c.converting = some k → k < c.live.length

/-- A new pass begins at entry 0 of a list that has one (R88, R93). -/
theorem Scan.converts_pass (live : List SensorId) (pending : Option (List SensorId)) :
    Scan.Converts ⟨live, pending, if live = [] then none else some 0⟩ := by
  cases live <;> simp [Scan.Converts]

/-- What a takeover leaves of the two lists and the sensors (R93 to R95). -/
theorem State.takePending_cases (s : State) (order : List SensorId) :
    ((s.takePending order).scan.live = s.scan.live ∧ (s.takePending order).sensors = s.sensors)
    ∨ ∃ list, s.scan.pending = some list ∧ (s.takePending order).scan.live = list
      ∧ ∀ i, (s.takePending order).sensor i = (s.sensor i).takeover (s.scan.live.contains i) (list.contains i) := by
  unfold State.takePending
  split
  · exact .inl ⟨rfl, rfl⟩
  next list found =>
  dsimp only
  split
  · exact .inl ⟨rfl, rfl⟩
  · refine .inr ⟨list, found, by simp, fun i => ?_⟩
    rw [State.submit_sensor, State.submitAll_sensor]
    simp [State.sensor]

/-- After a takeover a sensor is UNSCANNED exactly where the new list does not name it (R94). -/
theorem Sensor.takeover_unscanned {n : Sensor} {old : Bool} (h : n.status = .unscanned ↔ old = false) (new : Bool) :
    (n.takeover old new).status = .unscanned ↔ new = false := by
  cases old <;> cases new <;> simp [Sensor.takeover, h]

/-- A sensor is UNSCANNED exactly when it is unlisted. -/
def UnscannedUnlisted (s : State) : Prop := ∀ i, (s.sensor i).status = .unscanned ↔ i ∉ s.scan.live

theorem UnscannedUnlisted.takePending {s : State} (hs : UnscannedUnlisted s) (order : List SensorId) :
    UnscannedUnlisted (s.takePending order) := fun i => by
  have listed (l : List SensorId) : l.contains i = false ↔ i ∉ l := by simp
  rcases s.takePending_cases order with ⟨live, sensors⟩ | ⟨list, -, live, sensor⟩
  · rw [live, (s.sensors_eq_iff _).1 sensors i]
    exact hs i
  · rw [live, sensor i, Sensor.takeover_unscanned ((hs i).trans (listed _).symm), listed]

/-- The scan is consistent where the converter follows its list and the sensors do. -/
theorem scanConsistent_iff (s : State) : ScanConsistent s ↔ s.scan.Converts ∧ UnscannedUnlisted s := and_assoc.symm

theorem Move.scanConsistent {s t : State} (h : Move s t) (hs : ScanConsistent s) : ScanConsistent t := by
  rw [scanConsistent_iff] at hs ⊢
  obtain ⟨converts, unlisted⟩ := hs
  have unscanned (sensor : ∀ i, (t.sensor i).status = .unscanned ↔ (s.sensor i).status = .unscanned)
      (live : t.scan.live = s.scan.live) : UnscannedUnlisted t := fun i => by rw [sensor i, live]; exact unlisted i
  cases h with
  | quiet k =>
    rw [k.scan]
    exact ⟨converts, unscanned (fun i => by rw [(s.sensors_eq_iff t).1 k.sensors i]) (by rw [k.scan])⟩
  | sensor i x hx =>
    refine ⟨converts, unscanned (fun j => ?_) rfl⟩
    rw [State.sensor_setSensor]
    split
    · next e => rw [e]; exact hx
    · exact Iff.rfl
  | convert k more =>
    refine ⟨⟨?_, fun j hj => ?_⟩, unlisted⟩
    · have listed : s.scan.live ≠ [] := List.ne_nil_of_length_pos (by omega)
      simp [listed]
    · cases hj
      exact more
  | pass order => exact ⟨Scan.converts_pass _ _, unlisted.takePending order⟩
  | softReset =>
    refine ⟨Scan.converts_pass _ _, fun i => ?_⟩
    rw [State.softResetAll_sensor, show s.softResetAll.scan.live = s.scan.live from rfl]
    by_cases listed : i ∈ s.scan.live <;> simp [Sensor.softReset, listed]
  | hardReset rate cause =>
    refine ⟨Scan.converts_pass [] none, fun i => ?_⟩
    have reset := State.afterHardReset_sensor rate cause i
    unfold State.sensor at reset ⊢
    dsimp only
    rw [reset]
    simp [Sensor.reset, State.afterHardReset]
  | link | device | list | tick | cycle | drive => exact ⟨converts, unlisted⟩

/-! ## The cycle (R130, R131, R146) -/

theorem nextCounter_le {m : Modulator} (newLength : Bool) : nextCounter m newLength ≤ 15 := by
  unfold nextCounter
  split <;> omega

theorem Move.cycleInRange {s t : State} (h : Move s t) (hs : CycleInRange s) : CycleInRange t := by
  obtain ⟨counter, tick, first⟩ := hs
  cases h with
  | quiet k => rw [CycleInRange, k.modulator]; exact ⟨counter, tick, first⟩
  | tick within =>
    simp only [Modulator.atCycleEnd, Bool.or_eq_false_iff, decide_eq_false_iff_not] at within
    obtain ⟨begun, before⟩ := within
    refine ⟨counter, ?_, fun fresh => ?_⟩
    · rw [State.startTick_modulator]
      dsimp only
      omega
    · rw [State.startTick_modulator] at fresh
      exact absurd fresh (by simp [begun])
  | cycle newLength => exact ⟨nextCounter_le newLength, by simp, fun fresh => by cases fresh⟩
  | drive => exact ⟨counter, by simp, fun _ => rfl⟩
  | pass order =>
    obtain ⟨-, -, -, modulator, -⟩ := s.takePending_keeps order
    rw [CycleInRange, State.beginPass_modulator, modulator]
    exact ⟨counter, tick, first⟩
  | hardReset => exact ⟨Nat.zero_le _, Nat.zero_le _, fun _ => rfl⟩
  | link | device | sensor | list | convert | softReset => exact ⟨counter, tick, first⟩

/-! ## Every step -/

/-- Settles O59: a step is a sequence of moves, and each move keeps the invariants. -/
theorem stepsKeepLinkAndScanConsistent : Obligations.StepsKeepLinkAndScanConsistent := by
  refine ⟨fun s t h => ⟨?_, fun queues window => ?_, ?_, ?_⟩, fun s t h => ⟨?_, ?_⟩⟩
  · exact step_keeps (fun _ _ => Move.queuesBounded) h
  · exact (windowKept_iff t).2
      (step_keeps (fun _ _ => Move.windowKept) h ⟨queues, (windowKept_iff s).1 window⟩).2
  · exact step_keeps (fun _ _ => Move.txdFollows) h
  · exact step_keeps (fun _ _ => Move.silenceStoppedWhenLost) h
  · exact step_keeps (fun _ _ => Move.scanConsistent) h
  · exact step_keeps (fun _ _ => Move.cycleInRange) h

end Sys2Proof.Machine
end

section
/-!
SENSOR_SET, SENSOR_READ and SCAN_GET (R96, R106, R107, R212): the first writes the carried fields or names one, the
other two only answer.
-/

namespace Sys2Proof.Machine

/-! ## SENSOR_SET (R106) -/

theorem blockSensorSet_refused {i : SensorId} {rest : List Byte} {f : Field}
    (h : sensorFault (byte i.val :: rest) = some f) (u : State) :
    blockSensorSet (byte i.val :: rest) u = ([0x12, f.code], u) := by
  simp [blockSensorSet, onSensor, h, refuse, Status.bytes]

theorem blockSensorSet_accepted {i : SensorId} {rest : List Byte} (h : sensorFault (byte i.val :: rest) = none)
    (u : State) :
    blockSensorSet (byte i.val :: rest) u = ([0x00], u.setSensor i (sensorWith (byte i.val :: rest) (u.sensor i))) := by
  simp [blockSensorSet, onSensor, h, Status.bytes]

/-- Settles O30: the fields are judged in the order of R106, and an accepted request writes one sensor. -/
theorem sensorSetWritesTheCarriedFields : Obligations.SensorSetWritesTheCarriedFields := by
  intro s q i rest p f n h length
  obtain ⟨accepts, refuses⟩ := sensorFault_agrees p
  have allowed : hasLength 13 p = true := by simpa [hasLength] using length
  refine ⟨fun code bad => ?_, fun inRange => ?_⟩
  · obtain ⟨field, fault, rfl⟩ := (refuses code).1 bad
    exact onlyAnswers_of_block h rfl allowed (blockSensorSet_refused fault _)
  · have block := blockSensorSet_accepted (accepts.2 inRange) s.wake.takeFrame
    have step := exec_of_block (c := .sensorSet q p) (block := blockSensorSet p) h rfl allowed
    rw [show blockSensorSet p s.wake.takeFrame = _ from block] at step
    refine ⟨_, step, answered_of_same rfl, sameReports_of_block rfl, ?_, fun j hj => ?_,
      rfl, rfl, rfl, rfl, rfl, rfl, rfl⟩
    · simp [sensorWith, n, p]
    · simp [hj]

/-! ## Numbers in a reply (R198) -/

section
variable (hi lo b : Byte) (p : List Byte) (k n : Nat)

theorem nat16_cons_succ : nat16 (b :: p) (k + 1) = nat16 p k := rfl

theorem int16_cons_succ : int16 (b :: p) (k + 1) = int16 p k := rfl

theorem bitAt_cons_succ (j : Nat) : bitAt (b :: p) (k + 1) j = bitAt p k j := rfl

/-- A two-byte number is shown modulo the width of its field. -/
theorem nat16_be16 : nat16 (byte (n / 256) :: byte n :: p) 0 = n % 65536 := by
  simp only [nat16, nat8_cons_zero, nat8_cons_succ, byte_toNat]
  omega

/-- A signed two-byte number is shown modulo the width of its field. -/
theorem int16_beS16 (x : Int) :
    int16 (byte ((x % 65536).toNat / 256) :: byte (x % 65536).toNat :: p) 0 = x.bmod 65536 := by
  rw [int16, nat16_be16, Int.bmod_def]
  split <;> split <;> omega

end

/-- Two flags of a byte. -/
theorem bitAt_flags (a b : Bool) (p : List Byte) :
    bitAt (byte (flagBit a 1 + flagBit b 2) :: p) 0 0 = a ∧ bitAt (byte (flagBit a 1 + flagBit b 2) :: p) 0 1 = b := by
  change (byte (flagBit a 1 + flagBit b 2)).getLsbD 0 = a ∧ (byte (flagBit a 1 + flagBit b 2)).getLsbD 1 = b
  revert a b
  decide

/-! ## SENSOR_READ and SCAN_GET (R96, R107) -/

theorem blockSensorRead_eq (i : SensorId) (u : State) :
    blockSensorRead [byte i.val] u = (0x00 :: u.sensorBytes i, u) := by
  simp [blockSensorRead, onSensor, Status.bytes]

/-- The status of the two lists, and the lists (R96). -/
theorem blockScanGet_eq (u : State) :
    blockScanGet u =
      ((match u.scan.pending with
        | some l =>
          [0x00, (if u.scan.converting = none then 0 else 1), 1, byte u.scan.live.length, byte l.length]
            ++ u.scan.live.map (fun i => byte i.val) ++ l.map (fun i => byte i.val)
        | none =>
          [0x00, (if u.scan.converting = none then 0 else 1), 0, byte u.scan.live.length, 0]
            ++ u.scan.live.map (fun i => byte i.val)), u) := by
  unfold blockScanGet
  cases u.scan.pending <;> cases u.scan.converting <;> simp [Status.bytes, flagByte, byte]

/-- Settles O31: both answer from what they find; the sensor's reply is read back byte by byte. -/
theorem sensorReadAndScanGetOnlyAnswer : Obligations.SensorReadAndScanGetOnlyAnswer := by
  refine ⟨?_, fun s q h => onlyAnswers_of_block h rfl rfl (blockScanGet_eq _)⟩
  intro s q i f n h
  refine ⟨0x00 :: s.sensorBytes i, onlyAnswers_of_block h rfl rfl (blockSensorRead_eq i _), ?_⟩
  have number : i.val % 256 = i.val := by omega
  simp [State.sensorBytes, beS16, be16, nat16_cons_succ, int16_cons_succ, bitAt_cons_succ, nat16_be16, int16_beS16,
    bitAt_flags, number, n]

end Sys2Proof.Machine
end

section
/-!
The takeover of a pending scan list (R91, R93 to R95) and SCAN_SET (R91, R92).
-/

namespace Sys2Proof.Machine

/-! ## The sensor that a list omits (R91, row 3) -/

/-- The lowest number that meets a test. -/
theorem find?_finRange {n : Nat} {p : Fin n → Bool} {i : Fin n} (hi : p i = true) (below : ∀ j, j < i → p j = false) :
    (List.finRange n).find? p = some i := by
  rw [List.find?_eq_some_iff_getElem]
  refine ⟨hi, i.val, by simp, by simp, fun j hj => ?_⟩
  rw [List.getElem_finRange, below _ hj]
  rfl

section
variable {s : State} {list : List SensorId} {i : SensorId}

theorem State.omits_iff (s : State) (list : List SensorId) (i : SensorId) :
    (!list.contains i && allZones.any (fun z => (s.zone z).uses i)) = true ↔ i ∉ list ∧ InUse s i := by
  simp only [Bool.and_eq_true, State.uses_iff]
  simp

theorem State.omitted_eq_some (used : InUse s i) (unlisted : i ∉ list)
    (below : ∀ j, j < i → InUse s j → j ∈ list) : s.omitted list = some i := by
  refine find?_finRange ((s.omits_iff list i).2 ⟨unlisted, used⟩) fun j hj => ?_
  rw [Bool.eq_false_iff, ne_eq, State.omits_iff]
  exact fun ⟨missing, usedToo⟩ => missing (below j hj usedToo)

theorem State.omitted_eq_none (covered : ∀ i, InUse s i → i ∈ list) : s.omitted list = none := by
  refine List.find?_eq_none.2 fun i _ => ?_
  rw [State.omits_iff]
  exact fun ⟨missing, used⟩ => missing (covered i used)

/-! ## The takeover (R93 to R95) -/

/-- The part with a new live list, every sensor as the old and the new list have it (R94). -/
def State.withLive (s : State) (list : List SensorId) : State :=
  { s with
    scan := { s.scan with live := list, pending := none }
    sensors := Vector.ofFn (fun i : SensorId => (s.sensor i).takeover (s.scan.live.contains i) (list.contains i)) }

theorem State.withLive_sensor (s : State) (list : List SensorId) (i : SensorId) :
    (s.withLive list).sensor i = (s.sensor i).takeover (s.scan.live.contains i) (list.contains i) := by
  simp [State.withLive, State.sensor]

/-- The reports of a takeover: the sensors that left FAILED in their order, and SCAN_TAKEN (R94, R104). -/
def takenReports (s : State) (zs list : List SensorId) : List Report :=
  (zs.filter (fun i => decide ((s.sensor i).status = .failed ∧ i ∉ list))).map
    (fun i => Report.sensorState i .unscanned) ++ [Report.scanTaken list.length]

/-- A FAILED sensor leaves FAILED at a takeover exactly where the new list does not name it (R94). -/
theorem Sensor.takeover_failed {n : Sensor} (failed : n.status = .failed) (old new : Bool) :
    (n.takeover old new).status = .unscanned ↔ new = false := by
  cases old <;> cases new <;> simp [Sensor.takeover, failed]

theorem State.leavesFailed_eq (s : State) (list : List SensorId) (i : SensorId) :
    (decide ((s.sensor i).status = .failed) && decide (((s.withLive list).sensor i).status = .unscanned))
      = decide ((s.sensor i).status = .failed ∧ i ∉ list) := by
  rw [s.withLive_sensor, ← Bool.decide_and, decide_eq_decide]
  refine and_congr_right fun failed => ?_
  rw [Sensor.takeover_failed failed]
  simp

/-- A pending list that omits no sensor in use is taken. -/
theorem State.takePending_taken (pending : s.scan.pending = some list) (covered : ∀ i, InUse s i → i ∈ list)
    (zs : List SensorId) : s.takePending zs = (s.withLive list).submitAll (takenReports s zs list) := by
  have left : zs.filter (fun i => decide ((s.sensor i).status = .failed)
      && decide (((s.withLive list).sensor i).status = .unscanned))
      = zs.filter (fun i => decide ((s.sensor i).status = .failed ∧ i ∉ list)) :=
    List.filter_congr fun i _ => s.leavesFailed_eq list i
  unfold takenReports
  rw [State.takePending, pending]
  simp only [State.omitted_eq_none covered]
  rw [← left, State.submitAll, State.submitAll, List.foldl_append]
  rfl

/-- A pending list that omits a sensor in use is withdrawn. -/
theorem State.takePending_withdrawn (pending : s.scan.pending = some list) (omitted : s.omitted list = some i)
    (zs : List SensorId) :
    s.takePending zs =
      ({ s with scan := { s.scan with pending := none } } : State).submit (.scanWithdrawn s.scan.live.length i) := by
  rw [State.takePending, pending]
  simp only [omitted]

/-- What the two lists make of a sensor, in the vocabulary of the lists (R94). -/
theorem Sensor.takeover_eq (n : Sensor) (old new : List SensorId) (i : SensorId) :
    n.takeover (old.contains i) (new.contains i) =
      if i ∈ new then
        (if i ∈ old then n else { n with status := .waiting, invalids := 0, valids := 0, seeded := false })
      else if i ∈ old then { n with status := .unscanned, invalids := 0, valids := 0 }
      else { n with status := .unscanned } := by
  by_cases listed : i ∈ old <;> by_cases lists : i ∈ new <;> simp [Sensor.takeover, listed, lists]

/-- Settles O55, by whether the pending list omits a sensor in use. -/
theorem takeoverFollowsTheTwoLists : Obligations.TakeoverFollowsTheTwoLists := by
  intro s zs list perm pending t same
  have kept : same := s.takePending_keeps zs
  refine ⟨fun covered => ⟨?_, fun i => ?_, ?_, kept⟩, fun i used unlisted below => ?_⟩
  · simp [t, State.takePending_taken pending covered, State.withLive]
  · rw [← Sensor.takeover_eq, ← State.withLive_sensor]
    simp only [t, State.takePending_taken pending covered, State.submitAll_sensor]
  · simp only [t, State.takePending_taken pending covered, State.submitAll_link]
    rfl
  · have withdrawn := State.takePending_withdrawn pending (State.omitted_eq_some used unlisted below) zs
    exact ⟨by simp [t, withdrawn], by simp [t, withdrawn], by simp [t, withdrawn], kept⟩

end

/-! ## SCAN_SET (R91, R92) -/

theorem byte_sensor_toNat (i : SensorId) : (byte i.val).toNat = i.val := by
  rw [byte_toNat]
  omega

/-- The numbers of sensors as bytes, and back. -/
theorem scanEntries_map (n : Byte) (list : List SensorId) :
    scanEntries (n :: list.map (fun i => byte i.val)) = some list := by
  unfold scanEntries
  rw [List.tail_cons]
  induction list with
  | nil => rfl
  | cons i list ih =>
    have number : i.val % 256 = i.val := by omega
    simp [List.mapM_cons, ih, number]

theorem scanEntries_bad {n : Byte} {entries : List Byte} (bad : ∃ b ∈ entries, 15 < b.toNat) :
    scanEntries (n :: entries) = none := by
  unfold scanEntries
  rw [List.tail_cons]
  induction entries with
  | nil => simp at bad
  | cons b entries ih =>
    rw [List.mapM_cons]
    by_cases hb : b.toNat < 16
    · have rest : ∃ b ∈ entries, 15 < b.toNat := by
        obtain ⟨c, hc, high⟩ := bad
        rcases List.mem_cons.1 hc with rfl | hc
        · omega
        · exact ⟨c, hc, high⟩
      simp [hb, ih rest]
    · simp [hb]

/-- Bytes up to 15 are the numbers of sensors. -/
theorem exists_sensors {entries : List Byte} (h : ∀ b ∈ entries, b.toNat ≤ 15) :
    ∃ list : List SensorId, entries = list.map (fun i => byte i.val) := by
  refine ⟨entries.pmap (fun b hb => ⟨b.toNat, Nat.lt_succ_of_le hb⟩) h, ?_⟩
  rw [List.map_pmap]
  refine (List.pmap_eq_self.2 fun b _ => ?_).symm
  simp [byte]

theorem byte_mem_map {i : SensorId} {list : List SensorId} :
    byte i.val ∈ list.map (fun j => byte j.val) ↔ i ∈ list := by
  refine List.mem_map_of_injective fun a b h => Fin.ext ?_
  rw [← byte_sensor_toNat a, ← byte_sensor_toNat b]
  exact congrArg BitVec.toNat h

/-- The part with a list pending (R92). -/
def State.withPending (s : State) (list : List SensorId) : State :=
  { s with scan := { s.scan with pending := some list } }

section
variable {u : State} {p : List Byte} {list : List SensorId}

theorem blockScanSet_refused {st : Status} (h : u.scanFault p = .error st) : blockScanSet p u = (st.bytes, u) := by
  simp only [blockScanSet, h]
  rfl

/-- While the converter is CONVERTING the list is pending (R92). -/
theorem blockScanSet_pending (h : u.scanFault p = .ok list) (converting : u.scan.converting ≠ none) :
    blockScanSet p u = ([0x01], u.withPending list) := by
  unfold blockScanSet
  rw [h]
  dsimp only
  split
  · next idle => exact absurd idle converting
  · rfl

/-- While the converter is IDLE the list is taken at once (R93). -/
theorem blockScanSet_taken (h : u.scanFault p = .ok list) (idle : u.scan.converting = none) :
    blockScanSet p u = ([0x01], ((u.withPending list).takePending allSensors).beginPass) := by
  unfold blockScanSet
  rw [h]
  dsimp only
  split
  · rfl
  · next converting => cases idle.symm.trans converting

end

/-- A list that fits and omits no sensor in use is accepted. -/
theorem State.scanFault_ok {s : State} {list : List SensorId} (fits : list.length ≤ 24)
    (covered : ∀ i, InUse s i → i ∈ list) :
    s.scanFault (byte list.length :: list.map (fun i => byte i.val)) = .ok list := by
  have count : ¬24 < list.length % 256 := by omega
  simp [State.scanFault, Config.maxScan, count, scanEntries_map, State.omitted_eq_none covered]

/-- A list taken by an IDLE part, where no sensor is listed: none can leave FAILED, and SCAN_TAKEN alone goes out
(R88, R89, R93, R94). -/
theorem State.takePending_idle {u : State} {list : List SensorId} (covered : ∀ i, InUse u i → i ∈ list)
    (unscanned : ∀ i, (u.sensor i).status = .unscanned) (zs : List SensorId) :
    (u.withPending list).takePending zs = (u.withLive list).submit (.scanTaken list.length) := by
  have reports : takenReports (u.withPending list) zs list = [.scanTaken list.length] := by
    have same (i : SensorId) : ((u.withPending list).sensor i).status = .unscanned := unscanned i
    simp [takenReports, same]
  rw [State.takePending_taken (s := u.withPending list) rfl covered, reports]
  rfl

/-- An unlisted, UNSCANNED sensor becomes WAITING where the list taken names it, and is as it was elsewhere (R94). -/
theorem Sensor.takeover_unlisted {n : Sensor} (unscanned : n.status = .unscanned) (list : List SensorId) (i : SensorId) :
    n.takeover false (list.contains i) =
      if i ∈ list then { n with status := .waiting, invalids := 0, valids := 0, seeded := false } else n := by
  by_cases listed : i ∈ list <;> simp [Sensor.takeover, listed, ← unscanned]

/-- Settles O32: the refusals in their order, and the two ways an accepted list goes. -/
theorem scanSetIsRefusedPendingOrTaken : Obligations.ScanSetIsRefusedPendingOrTaken := by
  refine ⟨?_, ?_⟩
  · intro s q n entries p refused h length
    have allowed : scanLengthOk p = true := by simp [scanLengthOk, p, length, Nat.add_comm]
    have refusal {st : Status} (fault : s.wake.takeFrame.scanFault p = .error st) : refused st.bytes :=
      onlyAnswers_of_block h rfl allowed (blockScanSet_refused fault)
    refine ⟨fun many => refusal (st := .badValue .count) ?_, fun few bad => refusal (st := .badValue .sensor) ?_,
      fun few good i used unlisted below => ?_⟩
    · simp [State.scanFault, Config.maxScan, p, many]
    · simp [State.scanFault, Config.maxScan, p, few.not_gt, scanEntries_bad bad]
    · obtain ⟨list, rfl⟩ := exists_sensors good
      rw [byte_mem_map] at unlisted
      have omitted : s.wake.takeFrame.omitted list = some i :=
        State.omitted_eq_some used unlisted fun j hj usedToo => byte_mem_map.1 (below j hj usedToo)
      refine refusal (st := .inUse i.val) ?_
      simp [State.scanFault, Config.maxScan, p, few.not_gt, scanEntries_map, omitted]
  · intro s q list p f h fits covered
    have allowed : scanLengthOk p = true := by
      have count : list.length % 256 = list.length := by omega
      simp [scanLengthOk, p, count, Nat.add_comm]
    have step := exec_of_block (c := .scanSet q p) (block := blockScanSet p) h rfl allowed
    have accepted : s.wake.takeFrame.scanFault p = .ok list := State.scanFault_ok fits covered
    refine ⟨fun converting => ?_, fun consistent idle => ?_⟩
    · rw [blockScanSet_pending accepted converting] at step
      exact ⟨_, step, answered_of_same rfl, sameReports_of_block rfl, rfl, rfl, rfl, rfl, rfl, rfl, rfl, rfl⟩
    · obtain ⟨idleList, -, unlisted⟩ := consistent
      have live : s.scan.live = [] := idleList.1 idle
      have unscanned (i : SensorId) : (s.sensor i).status = .unscanned := (unlisted i).2 (by simp [live])
      rw [blockScanSet_taken accepted idle, State.takePending_idle (u := s.wake.takeFrame) covered unscanned] at step
      generalize taken : (s.wake.takeFrame.withLive list).submit (.scanTaken list.length) = u at step
      have link : u.beginPass.link = [Report.scanTaken list.length].foldl Link.submit s.wake.takeFrame.link := by
        rw [← taken]
        rfl
      refine ⟨_, step, answered_of_submitted link, submitted_of_block link, ?_, fun i => ?_, ?_⟩
      · rw [State.wake_scan, State.answer_scan, State.beginPass, ← taken]
        rfl
      · rw [State.wake_sensor, State.answer_sensor, State.beginPass_sensor, ← taken, State.submit_sensor,
          State.withLive_sensor]
        have old : s.wake.takeFrame.scan.live.contains i = false := by simp [live]
        rw [old, State.takeFrame_sensor, State.wake_sensor]
        exact Sensor.takeover_unlisted (unscanned i) list i
      · simp [← taken, State.withLive]

end Sys2Proof.Machine
end

section
/-!
SUPPORT. What a completion makes of its sensor, and what an offer makes of each zone (R98 to R105, R112 to R115).
-/

namespace Sys2Proof.Machine

/-! ## The sensor (R98 to R102) -/

theorem classify_eq (n : Sensor) (code : Nat) : classify n code = classOf n code := by
  unfold classify classOf
  cases n.openAt <;> cases n.shortAt <;> simp

theorem Sensor.scale_eq (n : Sensor) (code : Nat) :
    n.scale code = max (-32767) (min 32767 (((code : Int) * n.gain).tdiv 1024 + n.offset)) :=
  limit_eq_max_min (by decide) _

theorem nextStatus_valid (st : SensorStatus) (valids faultCount : Nat) :
    nextStatus st true valids 0 faultCount = match st with
      | .failed => if faultCount ≤ valids then .valid else .failed
      | .unscanned => .unscanned
      | .waiting | .valid | .suspect => .valid := by
  cases st <;> rfl

theorem nextStatus_invalid (st : SensorStatus) (invalids faultCount : Nat) :
    nextStatus st false 0 invalids faultCount = match st with
      | .failed => .failed
      | .unscanned => .unscanned
      | .waiting => if faultCount ≤ invalids then .failed else .waiting
      | .valid | .suspect => if faultCount ≤ invalids then .failed else .suspect := by
  cases st <;> rfl

/-- A completion is the one of the rules. -/
theorem Sensor.complete_eq (n : Sensor) (code : Nat) : n.complete code = sensorAfter n code := by
  unfold Sensor.complete sensorAfter
  rw [classify_eq]
  dsimp only
  split
  · simp only [afterValid, Sensor.filter, Sensor.scale_eq, bump_eq_min, nextStatus_valid] <;> rfl
  · simp only [afterInvalid, bump_eq_min, nextStatus_invalid] <;> rfl

/-- After a code of class VALID there is a reading (R100). -/
theorem sensorAfter_reading {n : Sensor} {code : Nat} (valid : (sensorAfter n code).lastClass = .valid) :
    ∃ reading, (sensorAfter n code).lastScaled = some reading := by
  unfold sensorAfter at valid ⊢
  split at valid
  · next isValid => rw [if_pos isValid]; exact ⟨_, rfl⟩
  · next invalid => exact absurd valid invalid

/-! ## What an event does to one zone -/

/-- A zone has left the program of a slot by becoming TRIPPED (R18, R117). -/
def leavesSlot (x y : Zone) (k : SlotId) : Bool :=
  x.zr.state.isActive && decide (y.zr.state = .tripped) && decide (x.zr.active = some k)

/-- All but the zones, the slots and the link is as it was. -/
structure KeepsRest (s t : State) : Prop where
  free : t.store.free = s.store.free
  sensors : t.sensors = s.sensors
  scan : t.scan = s.scan
  stop : t.stop = s.stop
  modulator : t.modulator = s.modulator
  device : t.device = s.device
  pending : t.pending = s.pending

theorem KeepsRest.refl (s : State) : KeepsRest s s := ⟨rfl, rfl, rfl, rfl, rfl, rfl, rfl⟩

theorem KeepsRest.trans {s t u : State} (h : KeepsRest s t) (k : KeepsRest t u) : KeepsRest s u :=
  ⟨k.free.trans h.free, k.sensors.trans h.sensors, k.scan.trans h.scan, k.stop.trans h.stop,
    k.modulator.trans h.modulator, k.device.trans h.device, k.pending.trans h.pending⟩

/-- An event that reaches one zone: it becomes `y` with these reports, and its program is released if it has tripped. -/
structure Reaches (s t : State) (z : ZoneId) (y : Zone) (reports : List Report) : Prop where
  zone : ∀ z', t.zone z' = if z' = z then y else s.zone z'
  slot : ∀ k, t.slot k =
    { s.slot k with useCount := (s.slot k).useCount - if leavesSlot (s.zone z) y k then 1 else 0 }
  link : t.link = reports.foldl Link.submit s.link
  rest : KeepsRest s t

/-- A zone whose record stays has left no program. -/
theorem leavesSlot_of_zr {x y : Zone} (h : y.zr = x.zr) (k : SlotId) : leavesSlot x y k = false := by
  unfold leavesSlot
  rw [h]
  cases x.zr.state <;> simp [ZoneState.isActive]

section
variable {s t : State} {z : ZoneId} {y : Zone}

theorem Reaches.same (s : State) (z : ZoneId) : Reaches s s z (s.zone z) [] := by
  refine ⟨fun z' => ?_, fun k => by simp [leavesSlot_of_zr], rfl, .refl s⟩
  split
  · next e => rw [e]
  · rfl

/-- The excursion counters of a zone move (R113, R114). -/
theorem Reaches.count (s : State) (z : ZoneId) (e : Excursions) :
    Reaches s (s.setZone z { s.zone z with exc := e }) z { s.zone z with exc := e } [] :=
  ⟨fun z' => by simp, fun k => by simp [leavesSlot_of_zr], rfl, ⟨rfl, rfl, rfl, rfl, rfl, rfl, rfl⟩⟩

/-- A zone whose record stays trips (R117, R118). -/
theorem Reaches.trip (h : Reaches s t z y []) (zr : y.zr = (s.zone z).zr) (c : TripCause) (g : Option TripGuard) :
    Reaches s (t.trip z c g) z (tripOf y c g)
      (if (s.zone z).zr.state.isActive then [.trip z (recordOf y c g)] else []) := by
  have found : t.zone z = y := by rw [h.zone, if_pos rfl]
  obtain ⟨free, sensors, scan, stop, modulator, device, pending⟩ := t.trip_keeps z c g
  refine ⟨fun z' => ?_, fun k => ?_, ?_, h.rest.trans ⟨free, sensors, scan, stop, modulator, device, pending⟩⟩
  · rw [State.trip_zone, found, h.zone]
    split <;> rfl
  · have stays : t.slot k = s.slot k := by simp [h.slot k, leavesSlot_of_zr zr]
    have tripped : (s.zone z).zr.state.isActive = true → (tripOf y c g).zr.state = .tripped := by
      intro active
      rw [← zr] at active
      unfold tripOf
      cases state : y.zr.state <;> simp [state, ZoneState.isActive] at active <;> rfl
    rw [State.trip_slot, found, zr, stays]
    by_cases active : (s.zone z).zr.state.isActive = true
    · simp only [leavesSlot, active, tripped active, true_and, Bool.true_and, decide_true, decide_eq_true_eq]
      split <;> rfl
    · simp [leavesSlot, active]
  · rw [State.trip_link, found, zr, h.link]
    split <;> rfl

end

/-! ## An offer to one zone (R112 to R115) -/

/-- The offer that a completion makes (R105). -/
def offerOf (i : SensorId) (n : Sensor) (entersFailed : Bool) : Offer :=
  { sensor := i
    reading := if n.lastClass = .valid then n.lastScaled else none
    latest := n.lastScaled
    entersFailed := entersFailed }

/-- A valid reading judged by an entry of the zone (R113, R114). -/
theorem judgeZone_reaches (s : State) (z : ZoneId) (g : GuardEntry) (k : Nat) {i : SensorId} (hg : g.sensor = i)
    {n : Sensor} {reading : Int} (valid : n.lastClass = .valid) (scaled : n.lastScaled = some reading)
    (found : (s.zone z).live.guards.zipIdx.find? (fun g => decide (g.1.sensor = i)) = some (g, k))
    (awake : (s.zone z).zr.state ≠ .idle) (entersFailed : Bool) :
    Reaches s (s.judgeZone z g k reading) z (guardOutcome (s.zone z) z i n entersFailed).1
      (guardOutcome (s.zone z) z i n entersFailed).2 := by
  have outcome (e : Excursions) (c : TripCause) := (Reaches.count s z e).trip rfl c
    (some { entry := k, sensor := i, reading := some reading })
  have count (e : Excursions) : (if k = 0 then e.zero else e.one) = e.get k := rfl
  have counted (e : Excursions) (m : Nat) : (if k = 0 then { e with zero := m } else { e with one := m }) = e.set k m := rfl
  unfold guardOutcome State.judgeZone judge
  simp only [awake, found, valid, scaled, Option.getD_some, if_true, if_false, hg, count, counted]
  by_cases high : g.high < reading
  · simp only [high, if_true]
    split
    · exact outcome _ _
    · exact .count s z _
  by_cases low : g.low.any (fun l => decide (reading < l)) = true
  · simp only [high, low, if_true, if_false]
    split
    · exact outcome _ _
    · exact .count s z _
  · simp only [high, low, if_false]
    exact .count s z _

/-- An offer to a zone, by the first of its live entries that names the sensor (R112 to R115). -/
theorem evaluateZone_reaches {n : Sensor} (scaled : n.lastClass = .valid → ∃ reading, n.lastScaled = some reading)
    (i : SensorId) (entersFailed : Bool) (s : State) (z : ZoneId) :
    Reaches s (s.evaluateZone (offerOf i n entersFailed) z) z (guardOutcome (s.zone z) z i n entersFailed).1
      (guardOutcome (s.zone z) z i n entersFailed).2 := by
  unfold State.evaluateZone
  by_cases idle : (s.zone z).zr.state = .idle
  · simp only [guardOutcome, idle, if_true]
    exact .same s z
  simp only [idle, if_false, offerOf]
  have on : (s.zone z).live.guards.zipIdx.find? (fun g => decide (g.1.sensor = i)) = (s.zone z).guardOn i := rfl
  cases guard : (s.zone z).guardOn i with
  | none =>
    have found := on.trans guard
    simp only [guardOutcome, idle, found, if_false]
    exact .same s z
  | some entry =>
    obtain ⟨g, k⟩ := entry
    have found := on.trans guard
    have names : g.sensor = i := by simpa using List.find?_some found
    by_cases valid : n.lastClass = .valid
    · obtain ⟨reading, reads⟩ := scaled valid
      simp only [valid, if_true, reads]
      exact judgeZone_reaches s z g k names valid reads found idle entersFailed
    · cases entersFailed with
      | true =>
        simp only [guardOutcome, idle, found, valid, if_true, if_false]
        exact (Reaches.same s z).trip rfl _ _
      | false =>
        simp only [guardOutcome, idle, found, valid, if_false, Bool.false_eq_true]
        exact .same s z

/-! ## An event that reaches several zones -/

/-- An event that reaches the zones of a list, and makes of each what `out` says. -/
structure ReachesAll (s t : State) (zs : List ZoneId) (out : ZoneId → Zone × List Report) : Prop where
  zone : ∀ y, t.zone y = if y ∈ zs then (out y).1 else s.zone y
  slot : ∀ k, t.slot k =
    { s.slot k with
      useCount := (s.slot k).useCount - zs.countP (fun z => leavesSlot (s.zone z) (out z).1 k) }
  link : t.link = (zs.flatMap (fun z => (out z).2)).foldl Link.submit s.link
  rest : KeepsRest s t

/-- Zones that an event reaches one after the other, each of them once. -/
theorem foldl_reachesAll {f : State → ZoneId → State} {g : ZoneId → Zone → Zone × List Report}
    (each : ∀ s z, Reaches s (f s z) z (g z (s.zone z)).1 (g z (s.zone z)).2) {zs : List ZoneId} (once : zs.Nodup)
    (s : State) : ReachesAll s (zs.foldl f s) zs (fun z => g z (s.zone z)) := by
  induction zs generalizing s with
  | nil => exact ⟨fun y => by simp, fun k => by simp, rfl, .refl s⟩
  | cons z zs ih =>
    obtain ⟨new, once⟩ := List.nodup_cons.1 once
    obtain ⟨zone, slot, link, rest⟩ := each s z
    have others : ∀ y ∈ zs, (f s z).zone y = s.zone y := fun y hy => by
      rw [zone, if_neg (ne_of_mem_of_not_mem hy new)]
    obtain ⟨zone', slot', link', rest'⟩ := ih once (f s z)
    rw [List.foldl_cons]
    refine ⟨fun y => ?_, fun k => ?_, ?_, rest.trans rest'⟩
    · rw [zone' y]
      by_cases hy : y ∈ zs
      · simp [hy, others y hy]
      · by_cases e : y = z
        · simp [zone, e, new]
        · simp [zone, hy, e]
    · have rest : zs.countP (fun y => leavesSlot ((f s z).zone y) (g y ((f s z).zone y)).1 k)
          = zs.countP (fun y => leavesSlot (s.zone y) (g y (s.zone y)).1 k) :=
        List.countP_congr fun y hy => by rw [others y hy]
      rw [slot' k, rest, slot k, List.countP_cons, Nat.sub_sub, Nat.add_comm]
    · have reports : zs.flatMap (fun y => (g y ((f s z).zone y)).2) = zs.flatMap (fun y => (g y (s.zone y)).2) :=
        List.flatMap_congr fun y hy => by rw [others y hy]
      rw [link', reports, link, List.flatMap_cons, List.foldl_append]

/-- An offer to every zone in zone number order (R112). -/
theorem State.evaluate_reachesAll {n : Sensor}
    (scaled : n.lastClass = .valid → ∃ reading, n.lastScaled = some reading) (i : SensorId) (entersFailed : Bool)
    (s : State) :
    ReachesAll s (s.evaluate (offerOf i n entersFailed)) allZones
      (fun z => guardOutcome (s.zone z) z i n entersFailed) :=
  foldl_reachesAll (g := fun z x => guardOutcome x z i n entersFailed)
    (evaluateZone_reaches scaled i entersFailed) allZones_nodup s

end Sys2Proof.Machine
end

section
/-!
CONVERSION_COMPLETION (R88, R93, R98 to R105, R112 to R115): the reading is handled, and the scan goes on.
-/

namespace Sys2Proof.Machine

/-! ## The reading (R98 to R105) -/

section
variable (s : State) (i : SensorId) (code : Nat)

/-- The completion makes the sensor enter FAILED. -/
def entersFailed : Bool :=
  decide ((s.sensor i).status ≠ .failed ∧ (sensorAfter (s.sensor i) code).status = .failed)

/-- The SENSOR_STATE report of an entry into FAILED or a departure from it (R104). -/
def sensorReports : List Report :=
  if (s.sensor i).status = .failed ↔ (sensorAfter (s.sensor i) code).status = .failed then []
  else [Report.sensorState i (sensorAfter (s.sensor i) code).status]

/-- What the offer of a completion makes of a zone. -/
def offerOutcome (z : ZoneId) : Zone × List Report :=
  guardOutcome (s.zone z) z i (sensorAfter (s.sensor i) code) (entersFailed s i code)

/-- The reading is handled by its three parts: the record, the report, the offer (R98, R104, R105). -/
theorem State.handleReading_eq :
    s.handleReading i code =
      ((s.setSensor i (sensorAfter (s.sensor i) code)).submitAll (sensorReports s i code)).evaluate
        (offerOf i (sensorAfter (s.sensor i) code) (entersFailed s i code)) := by
  unfold State.handleReading sensorReports entersFailed
  simp only [Sensor.complete_eq]
  generalize (s.sensor i).status = old
  generalize sensorAfter (s.sensor i) code = new
  by_cases was : old = .failed <;> by_cases becomes : new.status = .failed <;> simp [was, becomes] <;> rfl

end

/-- All that the handling of a reading does: the part after it is `t`. -/
structure ReadingHandled (s t : State) (i : SensorId) (code : Nat) : Prop where
  sensor : t.sensor i = sensorAfter (s.sensor i) code
  others : ∀ j, j ≠ i → t.sensor j = s.sensor j
  zone : ∀ z, t.zone z = (offerOutcome s i code z).1
  reports : Submitted s t (sensorReports s i code ++ allZones.flatMap (fun z => (offerOutcome s i code z).2))
  free : t.store.free = s.store.free
  slot : ∀ j, t.slot j = { s.slot j with
    useCount := (s.slot j).useCount
      - allZones.countP (fun z => leavesSlot (s.zone z) (offerOutcome s i code z).1 j) }
  stop : t.stop = s.stop
  modulator : t.modulator = s.modulator
  device : t.device = s.device
  pending : t.pending = s.pending
  line : SameLine s t
  queues : SameQueues s t

section
variable (s : State) (i : SensorId) (code : Nat)

/-- The record and the report come first, and then the offer reaches the twelve zones. -/
theorem State.handleReading_reachesAll :
    ReachesAll ((s.setSensor i (sensorAfter (s.sensor i) code)).submitAll (sensorReports s i code))
      (s.handleReading i code) allZones (offerOutcome s i code) := by
  have offered := State.evaluate_reachesAll (n := sensorAfter (s.sensor i) code) sensorAfter_reading i
    (entersFailed s i code) ((s.setSensor i (sensorAfter (s.sensor i) code)).submitAll (sensorReports s i code))
  rw [← State.handleReading_eq] at offered
  simp only [State.submitAll_zone, State.setSensor_zone] at offered
  exact offered

theorem State.handleReading_link :
    (s.handleReading i code).link =
      (sensorReports s i code ++ allZones.flatMap (fun z => (offerOutcome s i code z).2)).foldl Link.submit s.link := by
  rw [(s.handleReading_reachesAll i code).link, List.foldl_append, State.submitAll_link, State.setSensor_link]

theorem State.handleReading_scan : (s.handleReading i code).scan = s.scan := by
  rw [(s.handleReading_reachesAll i code).rest.scan, State.submitAll_scan, State.setSensor_scan]

theorem State.handleReading_handled : ReadingHandled s (s.handleReading i code) i code := by
  have link := s.handleReading_link i code
  obtain ⟨zone, slot, -, rest⟩ := s.handleReading_reachesAll i code
  have sensor (j : SensorId) : (s.handleReading i code).sensor j
      = if j = i then sensorAfter (s.sensor i) code else s.sensor j := by
    rw [(State.sensors_eq_iff _ _).1 rest.sensors j, State.submitAll_sensor, State.sensor_setSensor]
  obtain ⟨rate, receiver, rxQueue, awaitsReset, retry, replies, -, -, resend, connected, silence, -⟩ :=
    (Link.foldl_submit_onlyReports s.link
      (sensorReports s i code ++ allZones.flatMap (fun z => (offerOutcome s i code z).2))).keeps
  rw [← link] at rate receiver rxQueue awaitsReset retry replies resend connected silence
  refine ⟨by simp [sensor], fun j hj => by simp [sensor, hj], fun z => by simp [zone, mem_allZones], ?_, ?_, fun k => ?_,
    ?_, ?_, ?_, ?_, ⟨rate, receiver, resend, connected, silence, awaitsReset⟩, ⟨rxQueue, replies, retry⟩⟩
  · rw [Submitted, ReportsOf, link]
    exact ⟨rfl, rfl, rfl⟩
  · simpa using rest.free
  · simpa using slot k
  · simpa using rest.stop
  · simpa using rest.modulator
  · simpa using rest.device
  · simpa using rest.pending

end

section
variable {s t : State} {i : SensorId} {code : Nat}

/-- An IDLE transmitter may have chosen before the reading. -/
theorem ReadingHandled.of_wake (h : ReadingHandled s.wake t i code) : ReadingHandled s t i code := by
  obtain ⟨sensor, others, zone, reports, free, slot, stop, modulator, device, pending, line, queues⟩ := h
  have same : s.link.ReportsEq s.wake.link := by simp [Link.ReportsEq]
  obtain ⟨submitted, nextSeq, lost⟩ :=
    same.foldl (sensorReports s i code ++ allZones.flatMap (fun z => (offerOutcome s i code z).2))
  refine ⟨sensor, others, zone, ?_, free, slot, stop, modulator, device, pending, ?_, ?_⟩
  · obtain ⟨r, n, l⟩ := reports
    exact ⟨r.trans submitted, n.trans nextSeq, l.trans lost⟩
  · simpa [SameLine] using line
  · simpa [SameQueues] using queues

/-- The scan goes on and an IDLE transmitter chooses after the reading. -/
theorem ReadingHandled.goesOn (h : ReadingHandled s t i code) (c : Scan) :
    ReadingHandled s ({ t with scan := c } : State).wake i code := by
  obtain ⟨sensor, others, zone, reports, free, slot, stop, modulator, device, pending, line, queues⟩ := h
  refine ⟨sensor, others, zone, ?_, free, slot, stop, modulator, device, pending, ?_, ?_⟩
  · simpa [Submitted, ReportsOf] using reports
  · simpa [SameLine] using line
  · simpa [SameQueues] using queues

end

/-! ## The scan goes on (R88, R93) -/

/-- With no pending list, or before the last entry, the next conversion begins, or the next pass. -/
theorem State.nextConversion_within {u : State} {k : Nat} (entry : k < u.scan.live.length)
    (goes : k + 1 < u.scan.live.length ∨ u.scan.pending = none) (zs : List SensorId) :
    u.nextConversion k zs =
      { u with scan := { u.scan with converting := some (if k + 1 < u.scan.live.length then k + 1 else 0) } } := by
  have listed : u.scan.live ≠ [] := List.ne_nil_of_length_pos (by omega)
  unfold State.nextConversion
  split
  · rfl
  · next last =>
    rw [State.takePending, goes.resolve_left last]
    simp [State.beginPass, listed]

/-- At the last entry, with a list pending, the takeover comes before the next pass. -/
theorem State.nextConversion_last {u : State} {k : Nat} (last : k + 1 = u.scan.live.length) (zs : List SensorId) :
    u.nextConversion k zs = (u.takePending zs).beginPass :=
  if_neg (by omega)

/-- A completion of the conversion in progress, between two choices of an IDLE transmitter. -/
theorem exec_completion {s : State} {k : Nat} {i : SensorId} (converting : s.scan.converting = some k)
    (entry : s.scan.live[k]? = some i) (code : BitVec 12) {zs : List SensorId} (order : zs.Perm allSensors) :
    exec (.conversionCompletion code (zs.map Fin.val)) s =
      .next ((s.wake.handleReading i code.toNat).nextConversion k zs).wake := by
  have taken : orderOf 16 (zs.map Fin.val) = zs := orderOf_of_perm order
  simp [exec, execConversionCompletion, State.carryOut, converting, entry, taken]

/-- Settles O54: the reading is handled, and then the scan goes on, with or without a takeover. -/
theorem completionHandlesTheReading : Obligations.CompletionHandlesTheReading := by
  refine ⟨fun s code order idle => ?_, ?_⟩
  · rw [chosen_eq, exec, execConversionCompletion]
    exact State.carryOut_same (by simp [idle])
  intro s code zs k i converting entry order c old new enters outcome Handled
  have step := exec_completion converting entry code order
  have handled : ReadingHandled s (s.wake.handleReading i code.toNat) i code.toNat :=
    (s.wake.handleReading_handled i code.toNat).of_wake
  have said {t : State} (h : ReadingHandled s t i code.toNat) : Handled t :=
    ⟨h.sensor, h.others, h.zone, h.reports, h.free, h.slot, h.stop, h.modulator, h.device, h.pending, h.line, h.queues⟩
  have scan : (s.wake.handleReading i code.toNat).scan = s.scan := s.wake.handleReading_scan i code.toNat
  obtain ⟨-, -, -, -, -, -, tx, runCount, -, -, -, txd⟩ := (Link.foldl_submit_onlyReports s.wake.link
    (sensorReports s.wake i code.toNat ++ allZones.flatMap (fun z => (offerOutcome s.wake i code.toNat z).2))).keeps
  rw [← s.wake.handleReading_link] at tx runCount txd
  generalize s.wake.handleReading i code.toNat = u at step handled scan tx runCount txd
  refine ⟨fun goes => ?_, fun last pending => ?_⟩
  · have inside : k < s.scan.live.length := (List.getElem?_eq_some_iff.1 entry).1
    rw [State.nextConversion_within (by rw [scan]; exact inside) (by rw [scan]; exact goes), scan] at step
    exact ⟨_, step, said (handled.goesOn _), transmitterServed_of_wake tx runCount txd, State.wake_scan _⟩
  · rw [State.nextConversion_last (by rw [scan]; exact last)] at step
    refine ⟨u, said handled, scan, ?_⟩
    rw [chosen_eq, chosen_eq]
    exact ⟨tx, txd, runCount, step⟩

end Sys2Proof.Machine
end

section
/-!
ZONE_TRIP and ALL_STOP (R116 to R118, R120, R121): the host trips one zone, or all that are active.
-/

namespace Sys2Proof.Machine

/-! ## ZONE_TRIP (R120) -/

theorem blockZoneTrip_refused {s : State} {z : ZoneId} (inactive : (s.zone z).zr.state.isActive = false) :
    blockZoneTrip [byte z.val] s = ([0x13, (s.zone z).zr.state.code], s) := by
  simp [blockZoneTrip, onZone, inactive, refuse, Status.bytes]

theorem blockZoneTrip_accepted {s : State} {z : ZoneId} (active : (s.zone z).zr.state.isActive = true) :
    blockZoneTrip [byte z.val] s = ([0x00], s.trip z .hostZone none) := by
  simp [blockZoneTrip, onZone, active, Status.bytes]

/-- An active zone that a trip cause reaches becomes TRIPPED (R117). -/
theorem tripOf_active {x : Zone} (active : x.zr.state.isActive = true) (c : TripCause) (g : Option TripGuard) :
    tripOf x c g = trippedFrom x c g := by
  unfold tripOf
  cases state : x.zr.state with
  | idle | tripped => simp [state, ZoneState.isActive] at active
  | running | stepping | held | keeping => rfl

/-- The one report that the trip of an active zone submits (R117, step 6). -/
theorem State.trip_link_active {s : State} {z : ZoneId} (active : (s.zone z).zr.state.isActive = true)
    (c : TripCause) (g : Option TripGuard) :
    (s.trip z c g).link = [Report.trip z (recordOf (s.zone z) c g)].foldl Link.submit s.link := by
  rw [State.trip_link, if_pos active]
  rfl

/-- Settles O23: an inactive zone is refused, and an active one takes the trip, read field by field. -/
theorem zoneTripEntersTripped : Obligations.ZoneTripEntersTripped := by
  intro s q z p f x h
  refine ⟨fun inactive => ?_, fun active => ?_⟩
  · exact onlyAnswers_of_block h rfl rfl (blockZoneTrip_refused inactive)
  · have step := exec_of_block (c := .zoneTrip q p) (ok := true) (block := blockZoneTrip p) h rfl rfl
    rw [show blockZoneTrip p s.wake.takeFrame = _ from blockZoneTrip_accepted active] at step
    have link := State.trip_link_active (s := s.wake.takeFrame) active .hostZone none
    obtain ⟨free, sensors, scan, stop, modulator, device, pending⟩ := s.wake.takeFrame.trip_keeps z .hostZone none
    refine ⟨_, step, answered_of_submitted link,
      ⟨?_, fun y other => ?_, device, ⟨sensors, scan, stop, modulator⟩, pending⟩, ⟨free, fun k => ?_⟩,
      submitted_of_block link⟩
    · simp [State.trip_zone, tripOf_active active, x]
    · simp [State.trip_zone, other]
    · simp [State.trip_slot, active, x]

/-! ## ALL_STOP (R121) -/

theorem blockAllStop_eq (s : State) :
    blockAllStop s =
      ([0x00, byte (allZones.countP (fun z => (s.zone z).zr.state.isActive))], s.tripAll .hostAll) := by
  simp [blockAllStop, State.activeCount, Status.bytes]

/-- Settles O8: the block is the cause HOST_ALL reaching the twelve zones, between two choices of an IDLE
transmitter. -/
theorem allStopTripsEveryActiveZone : Obligations.AllStopTripsEveryActiveZone := by
  intro s q h
  have step := exec_of_block (c := .allStop q []) (ok := true) (block := blockAllStop) h rfl rfl
  rw [blockAllStop_eq] at step
  obtain ⟨zones, store, link, device, plant, pending⟩ := s.wake.takeFrame.tripAll_spec .hostAll
  generalize s.wake.takeFrame.tripAll .hostAll = u at step zones store link device plant pending
  exact ⟨_, step, answered_of_submitted link, zones, store, submitted_of_block link, device, plant, pending⟩

end Sys2Proof.Machine
end

section
/-!
ZONE_CLEAR_TRIP (R122, R123): its refusals in the order of R122, and the record that an accepted one returns.
-/

namespace Sys2Proof.Machine

section
variable {s : State} {z : ZoneId}

theorem blockZoneClearTrip_badState (untripped : (s.zone z).zr.state ≠ .tripped) :
    blockZoneClearTrip [byte z.val] s = ([0x13, (s.zone z).zr.state.code], s) := by
  simp [blockZoneClearTrip, onZone, untripped, refuse, Status.bytes]

theorem blockZoneClearTrip_stopped (tripped : (s.zone z).zr.state = .tripped) (asserted : s.stop.asserted = true) :
    blockZoneClearTrip [byte z.val] s = ([0x18], s) := by
  simp [blockZoneClearTrip, onZone, tripped, asserted, refuse, Status.bytes]

theorem blockZoneClearTrip_stillActive (tripped : (s.zone z).zr.state = .tripped) (released : s.stop.asserted = false)
    {entry : Nat} {i : SensorId} (persists : s.guardStillActive z = some (entry, i)) :
    blockZoneClearTrip [byte z.val] s = ([0x17, byte entry, byte i.val], s) := by
  simp [blockZoneClearTrip, onZone, tripped, released, persists, refuse, Status.bytes]

/-- An accepted request answers with the record as R210 lays it out (R123). -/
theorem blockZoneClearTrip_cleared (tripped : (s.zone z).zr.state = .tripped) (released : s.stop.asserted = false)
    (past : s.guardStillActive z = none) {r : TripRec} (record : (s.zone z).trip = some r) :
    blockZoneClearTrip [byte z.val] s =
      (0x00 :: byte z.val :: tripForm r, (s.setZone z (s.zone z).clearTrip).reportState z .tripped .clearTrip) := by
  simp [blockZoneClearTrip, onZone, tripped, released, past, record, Status.bytes, tripForm_eq]

end

/-- Settles O24, row by row of R122, and then R123. -/
theorem clearTripReturnsTheRecord : Obligations.ClearTripReturnsTheRecord := by
  intro s q z p f x h
  refine ⟨fun untripped => ?_, fun tripped asserted => ?_, fun tripped released =>
    ⟨fun before g after guards earlier persists => ?_, fun past r record => ?_⟩⟩
  · exact onlyAnswers_of_block h rfl rfl (blockZoneClearTrip_badState untripped)
  · exact onlyAnswers_of_block h rfl rfl (blockZoneClearTrip_stopped tripped asserted)
  · have first : s.wake.takeFrame.guardStillActive z = some (before.length, g.sensor) :=
      State.guardStillActive_at guards earlier persists
    exact onlyAnswers_of_block h rfl rfl
      (blockZoneClearTrip_stillActive (s := s.wake.takeFrame) tripped released first)
  · have noneActive : s.wake.takeFrame.guardStillActive z = none := State.guardStillActive_none past
    exact zoneAnswers_of_report h rfl rfl
      (blockZoneClearTrip_cleared (s := s.wake.takeFrame) tripped released noneActive record)

end Sys2Proof.Machine
end

section
/-!
STOP_SAMPLE (R124 to R127): a sample that only moves the counts, and the samples that complete a run of three.
-/

namespace Sys2Proof.Machine

/-- A command that only writes the qualifier finds an IDLE transmitter's choice made, and leaves it no other. -/
theorem outcome_of_stop {o : Host.Outcome State Fault Refusal} {s : State} {stop : StopInput}
    (h : o = .next ({ s.wake with stop := stop } : State).wake) : o = .next { chosen s with stop := stop } := by
  rw [h, chosen_eq]
  simp [State.wake]

/-- An event that submits reports and does nothing else to the link, between two choices of an IDLE transmitter. -/
theorem link_of_submitted {s u : State} {rs : List Report} (h : u.link = rs.foldl Link.submit s.wake.link) :
    Submitted s u.wake rs ∧ SameLine s u.wake ∧ SameQueues s u.wake ∧ TransmitterServed s u.wake := by
  have same : s.link.ReportsEq s.wake.link := by simp [Link.ReportsEq]
  have reports := same.foldl rs
  obtain ⟨rate, receiver, rxQueue, awaitsReset, retry, replies, tx, runCount, resend, connected, silence, txd⟩ :=
    (Link.foldl_submit_onlyReports s.wake.link rs).keeps
  rw [← h] at reports rate receiver rxQueue awaitsReset retry replies tx runCount resend connected silence txd
  refine ⟨?_, ?_, ?_, transmitterServed_of_wake tx runCount txd⟩
  · simpa [Submitted, ReportsOf, Link.ReportsEq] using reports
  · simp [SameLine, rate, receiver, resend, connected, silence, awaitsReset]
  · simp [SameQueues, rxQueue, replies, retry]

/-- All that the assertion does: the qualifier, the trips, and STOP_STATE after their reports (R125, R127). -/
theorem State.assertStop_spec (s : State) :
    s.assertStop.stop = ⟨true, 0, 0⟩ ∧ TrippedAll s s.assertStop .stopInput ∧ ReleasedAll s s.assertStop
    ∧ s.assertStop.link = (tripReports s .stopInput
        ++ [Report.stopAsserted (allZones.countP (fun z => (s.zone z).zr.state.isActive))]).foldl Link.submit s.link
    ∧ s.assertStop.sensors = s.sensors ∧ s.assertStop.scan = s.scan ∧ s.assertStop.modulator = s.modulator
    ∧ s.assertStop.device = s.device ∧ s.assertStop.pending = s.pending := by
  obtain ⟨zones, store, link, device, ⟨sensors, scan, stop, modulator⟩, pending⟩ :=
    ({ s with stop := ⟨true, 0, 0⟩ } : State).tripAll_spec .stopInput
  unfold State.assertStop
  dsimp only
  generalize ({ s with stop := ⟨true, 0, 0⟩ } : State).tripAll .stopInput = u
    at zones store link device sensors scan stop modulator pending ⊢
  refine ⟨stop, zones, store, ?_, sensors, scan, modulator, device, pending⟩
  rw [State.submit_link, link, List.foldl_append]
  rfl

section
variable {s : State}

theorem exec_stopSample_high (released : s.stop.asserted = false) :
    exec (.stopSample true) s = .next { chosen s with stop := { s.stop with lowCount := 0 } } :=
  outcome_of_stop (by simp [exec, execStopSample, State.carryOut, released])

theorem exec_stopSample_low (asserted : s.stop.asserted = true) :
    exec (.stopSample false) s = .next { chosen s with stop := { s.stop with highCount := 0 } } :=
  outcome_of_stop (by simp [exec, execStopSample, State.carryOut, asserted])

/-- A low sample that is the first or the second in a row. -/
theorem exec_stopSample_countsLow (released : s.stop.asserted = false) (short : s.stop.lowCount < 2) :
    exec (.stopSample false) s = .next { chosen s with stop := { s.stop with lowCount := s.stop.lowCount + 1 } } :=
  outcome_of_stop (by simp [exec, execStopSample, State.carryOut, released, show ¬2 ≤ s.stop.lowCount by omega])

/-- A high sample that is the first or the second in a row. -/
theorem exec_stopSample_countsHigh (asserted : s.stop.asserted = true) (short : s.stop.highCount < 2) :
    exec (.stopSample true) s = .next { chosen s with stop := { s.stop with highCount := s.stop.highCount + 1 } } :=
  outcome_of_stop (by simp [exec, execStopSample, State.carryOut, asserted, show ¬2 ≤ s.stop.highCount by omega])

theorem exec_stopSample_asserts (released : s.stop.asserted = false) (third : 2 ≤ s.stop.lowCount) :
    exec (.stopSample false) s = .next s.wake.assertStop.wake := by
  simp [exec, execStopSample, State.carryOut, released, third]

theorem exec_stopSample_releases (asserted : s.stop.asserted = true) (third : 2 ≤ s.stop.highCount) :
    exec (.stopSample true) s = .next s.wake.releaseStop.wake := by
  simp [exec, execStopSample, State.carryOut, asserted, third]

end

/-- Settles O56, by the state of the qualifier, the level of the sample and the count before it. -/
theorem stopSamplesAreQualified : Obligations.StopSamplesAreQualified := by
  intro s counted
  refine ⟨fun released => ⟨exec_stopSample_high released, exec_stopSample_countsLow released, fun third => ?_⟩,
    fun asserted => ⟨exec_stopSample_low asserted, exec_stopSample_countsHigh asserted, fun third => ?_⟩⟩
  · have step := exec_stopSample_asserts released third
    obtain ⟨stop, zones, store, link, sensors, scan, modulator, device, pending⟩ := s.wake.assertStop_spec
    obtain ⟨reports, line, queues, served⟩ := link_of_submitted link
    generalize s.wake.assertStop = u
      at step stop zones store reports line queues served sensors scan modulator device pending
    exact ⟨_, step, stop, zones, store, reports, line, queues, served, sensors, scan, modulator, device, pending⟩
  · have link : s.wake.releaseStop.link = [Report.stopReleased].foldl Link.submit s.wake.link := rfl
    obtain ⟨reports, line, queues, served⟩ := link_of_submitted link
    have step := exec_stopSample_releases asserted third
    exact ⟨_, step, rfl, reports, line, queues, served, rfl, rfl, rfl, rfl, rfl, rfl, rfl⟩

end Sys2Proof.Machine
end

section
/-!
The dither (R135, R136): a window of active ticks keeps its length wherever in the cycle its phase puts it, and the
extra ticks of a frame are as many as the positions of the spread order that receive one.
-/

namespace Sys2Proof.Machine

/-! ## One cycle -/

/-- A window of `n` among `m` consecutive numbers keeps its length under a shift that wraps round. -/
theorem count_shifted_window {n m : Nat} (fits : n ≤ m) (shift : Nat) :
    Nat.count (fun t => (t + shift) % m < n) m = n := by
  have unshifted : Nat.count (fun t => t % m < n) m = n := by
    have inside : Nat.count (fun t => t % m < n) n = n :=
      Nat.count_of_forall fun t h => by rwa [Nat.mod_eq_of_lt (by omega)]
    have outside : Nat.count (fun k => (n + k) % m < n) (m - n) = 0 :=
      Nat.count_of_forall_not fun k h => by rw [Nat.mod_eq_of_lt (by omega)]; omega
    have parts := Nat.count_add (fun t => t % m < n) n (m - n)
    rwa [inside, outside, Nat.add_sub_cancel' fits] at parts
  have fromLeft := Nat.count_add (fun t => t % m < n) m shift
  have fromRight := Nat.count_add' (fun t => t % m < n) m shift
  simp only [Nat.add_mod_left] at fromLeft
  omega

/-- A cycle has as many active ticks as its tick count, whatever the frame phase (R136). -/
theorem FrameRec.countP_activeAt {f : FrameRec} (fits : f.tickCount ≤ 256) :
    (List.range 256).countP (fun t => f.activeAt t) = f.tickCount :=
  count_shifted_window fits _

/-- The machine's activity of a tick is the vocabulary's. -/
theorem FrameRec.activeAt_iff (f : FrameRec) (t : Nat) : f.activeAt t = true ↔ TickActive f t := by
  have offset : ((t : Int) - f.phase) % 256 = ((t + (256 - f.phase % 256)) % 256 : Nat) := by omega
  unfold FrameRec.activeAt FrameRec.tickCount TickActive spreadOrder
  simp only [offset, decide_eq_true_eq, List.contains_iff_mem]
  by_cases within : f.pos < 16
  · simp only [within, if_true, true_and, Nat.cast_lt]
  · simp [within]

/-! ## One frame -/

/-- The extra tick of the cycle at position `k` of a frame with a loaded fine of `fine` (R135). -/
def extraTick (fine k : Nat) : Nat := if (spreadOrder.take fine).contains k then 1 else 0

theorem FrameRec.tickCount_of_lt {f : FrameRec} (within : f.pos < 16) :
    f.tickCount = f.coarse + extraTick f.fine f.pos := if_pos within

theorem FrameRec.tickCount_of_le {f : FrameRec} (past : 16 ≤ f.pos) : f.tickCount = 0 := if_neg (by omega)

theorem extraTick_le_one (fine k : Nat) : extraTick fine k ≤ 1 := by
  unfold extraTick
  split <;> omega

/-- The spread order names each of the sixteen positions once, so that `fine` of them receive an extra tick. -/
theorem sum_extraTick : ∀ fine < 16, ((List.range 16).map (extraTick fine)).sum = fine := by decide

/-- No cycle of a loaded frame has more than its 256 ticks: a coarse of 256 comes with no extra tick. -/
theorem tickCount_loaded_le {duty : Nat} (most : duty ≤ 4096) (phase k : Nat) :
    FrameRec.tickCount { loadFrame duty phase with pos := k } ≤ 256 := by
  by_cases within : k < 16
  · rw [FrameRec.tickCount_of_lt within]
    change duty / 16 + extraTick (duty % 16) k ≤ 256
    rcases Nat.eq_zero_or_pos (duty % 16) with plain | dithered
    · rw [plain, show extraTick 0 k = 0 from rfl]
      omega
    · have := extraTick_le_one (duty % 16) k
      omega
  · rw [FrameRec.tickCount_of_le (not_lt.1 within)]
    exact Nat.zero_le _

/-- The tick counts of the sixteen positions of a loaded frame make up its duty (R134, R135). -/
theorem sum_tickCount_loaded (duty phase : Nat) :
    ((List.range 16).map fun k => FrameRec.tickCount { loadFrame duty phase with pos := k }).sum = duty := by
  have counts : (List.range 16).map (fun k => FrameRec.tickCount { loadFrame duty phase with pos := k })
      = (List.range 16).map (fun k => duty / 16 + extraTick (duty % 16) k) :=
    List.map_congr_left fun k member => FrameRec.tickCount_of_lt (List.mem_range.1 member)
  rw [counts, List.sum_map_add, sum_extraTick _ (Nat.mod_lt _ (by decide))]
  simp only [List.map_const', List.length_range, List.sum_replicate, smul_eq_mul]
  exact Nat.div_add_mod duty 16

/-- Settles O52: each cycle carries its tick count, and the tick counts of the sixteen add up to the duty. -/
theorem frameCarriesItsDuty : Obligations.FrameCarriesItsDuty := by
  intro duty phase most at_
  refine ⟨?_, fun k t past => ?_, fun k t _ => (at_ k).activeAt_iff t⟩
  · have counts (k : Nat) : (List.range 256).countP (fun t => (at_ k).activeAt t) = (at_ k).tickCount :=
      FrameRec.countP_activeAt (tickCount_loaded_le most phase k)
    simp only [counts]
    exact sum_tickCount_loaded duty phase
  · have none : (at_ k).tickCount = 0 := FrameRec.tickCount_of_le past
    simp [FrameRec.activeAt, none]

end Sys2Proof.Machine
end

section
/-!
TICK (R130, R136 to R138): the next tick of a cycle drives every pin, and where a cycle start is due none comes.
-/

namespace Sys2Proof.Machine

theorem State.atCycleEnd_iff (s : State) : s.modulator.atCycleEnd = true ↔ CycleDue s := by
  simp [Modulator.atCycleEnd, CycleDue]

/-- A driven pin shows the level of the tick's activity under the live polarity (R137). -/
theorem Zone.pinShows_drive (x : Zone) (t : Nat) : PinShows (x.drive t) t := by
  unfold PinShows
  change level x.live.polarity (x.frame.activeAt t) = true ↔ (TickActive x.frame t ↔ x.live.polarity = .activeHigh)
  rw [← FrameRec.activeAt_iff]
  cases x.live.polarity <;> simp [level]

theorem exec_tick_due {s : State} (due : CycleDue s) : exec .tick s = .next s.wake := by
  simp [exec, execTick, State.carryOut, s.atCycleEnd_iff.2 due]

theorem exec_tick_within {s : State} (within : ¬CycleDue s) :
    exec .tick s = .next (s.wake.startTick (s.modulator.tick + 1)).wake := by
  simp [exec, execTick, State.carryOut, mt s.atCycleEnd_iff.1 within]

/-- Settles O51, by whether a cycle start is due. -/
theorem tickDrivesEveryPin : Obligations.TickDrivesEveryPin := by
  intro s
  refine ⟨fun within => ⟨_, exec_tick_within within, rfl, fun z => ?_, rfl, rfl, rfl, rfl, rfl, ?_, rfl⟩,
    fun due => by rw [exec_tick_due due, chosen_eq]⟩
  · rw [State.wake_zone, State.startTick_zone, State.wake_zone]
    exact ⟨(s.zone z).pinShows_drive _, rfl⟩
  · simp [chosen_eq]

end Sys2Proof.Machine
end

section
/-!
DEVICE_COMMIT (R157, R170): the rows of R170 in their order, and the pending mark that an accepted request sets.
-/

namespace Sys2Proof.Machine

/-- The staged device record differs from the live one in what the governor's pool is made from (R157). -/
def State.PoolChanges (s : State) : Prop :=
  s.device.staged.governor ≠ s.device.live.governor ∨ s.device.staged.budget ≠ s.device.live.budget

/-- The staged cycle time differs from the live one (R170). -/
def State.PaceChanges (s : State) : Prop := s.device.staged.cycle ≠ s.device.live.cycle

theorem State.someNotIdle_iff (s : State) : s.someNotIdle = true ↔ ¬∀ z, (s.zone z).zr.state = .idle := by
  simp [State.someNotIdle, mem_allZones]

section
variable {s : State}

theorem State.deviceCommitFault_pending (pending : s.device.pending = true) :
    s.deviceCommitFault = some .commitPending := if_pos pending

/-- Two rows of R170 ask for idle zones, and both refuse alike. -/
theorem State.deviceCommitFault_notIdle (settled : s.device.pending = false)
    (changes : s.PaceChanges ∨ s.PoolChanges) (busy : ¬∀ z, (s.zone z).zr.state = .idle) :
    s.deviceCommitFault = some .notIdle := by
  have busy := s.someNotIdle_iff.2 busy
  unfold State.PaceChanges State.PoolChanges at changes
  rcases changes with paced | governed
  · simp [State.deviceCommitFault, settled, busy, paced]
  · simp [State.deviceCommitFault, settled, busy, governed]

theorem State.deviceCommitFault_budget (settled : s.device.pending = false) (governed : s.PoolChanges)
    (idle : ∀ z, (s.zone z).zr.state = .idle) (exceeds : ¬s.countedReserves ≤ s.device.staged.budget * 4096) :
    s.deviceCommitFault = some (.badValue .budget) := by
  have idle : s.someNotIdle ≠ true := fun busy => s.someNotIdle_iff.1 busy idle
  unfold State.PoolChanges at governed
  simp [State.deviceCommitFault, settled, idle, governed, Nat.not_le.1 exceeds]

theorem State.deviceCommitFault_none (settled : s.device.pending = false)
    (idle : s.PaceChanges ∨ s.PoolChanges → ∀ z, (s.zone z).zr.state = .idle)
    (fits : s.PoolChanges → s.countedReserves ≤ s.device.staged.budget * 4096) : s.deviceCommitFault = none := by
  have quiet (changes : s.PaceChanges ∨ s.PoolChanges) : s.someNotIdle ≠ true :=
    fun busy => s.someNotIdle_iff.1 busy (idle changes)
  have paced : ¬(s.device.staged.cycle ≠ s.device.live.cycle ∧ s.someNotIdle = true) :=
    fun h => quiet (.inl h.1) h.2
  have governed : ¬(s.PoolChanges ∧ s.someNotIdle = true) := fun h => quiet (.inr h.1) h.2
  have room : ¬(s.PoolChanges ∧ s.device.staged.budget * 4096 < s.countedReserves) :=
    fun h => Nat.not_lt.2 (fits h.1) h.2
  unfold State.PoolChanges at governed room
  simp only [State.deviceCommitFault, settled, decide_eq_true_eq, if_neg paced, if_neg governed, if_neg room,
    Bool.false_eq_true, if_false]

theorem blockDeviceCommit_refused {st : Status} (h : s.deviceCommitFault = some st) :
    blockDeviceCommit s = (st.bytes, s) := by
  simp [blockDeviceCommit, h, refuse]

theorem blockDeviceCommit_accepted (h : s.deviceCommitFault = none) :
    blockDeviceCommit s = ([0x01], { s with device := { s.device with pending := true } }) := by
  simp [blockDeviceCommit, h, Status.bytes]

end

/-- Settles O11, row by row of R170. -/
theorem deviceCommitIsJudgedInOrder : Obligations.DeviceCommitIsJudgedInOrder := by
  intro s q h idle governed paced fits
  have refused {st : Status} (fault : s.deviceCommitFault = some st) :
      OnlyAnswers (.deviceCommit q []) s ⟨q, 0x08, []⟩ st.bytes :=
    onlyAnswers_of_block h rfl rfl (blockDeviceCommit_refused (s := s.wake.takeFrame) fault)
  refine ⟨fun pending => refused (State.deviceCommitFault_pending pending),
    fun settled changes busy => refused (State.deviceCommitFault_notIdle settled changes busy),
    fun settled changes quiet exceeds => refused (State.deviceCommitFault_budget settled changes quiet exceeds),
    fun settled quiet room => ?_⟩
  have accepted : s.wake.takeFrame.deviceCommitFault = none := State.deviceCommitFault_none settled quiet room
  have step := exec_of_block (c := .deviceCommit q []) (ok := true) (block := blockDeviceCommit) h rfl rfl
  rw [blockDeviceCommit_accepted accepted] at step
  exact ⟨_, step, answered_of_same rfl, sameReports_of_block rfl, rfl, rfl, rfl, ⟨rfl, rfl, rfl, rfl⟩, rfl⟩

end Sys2Proof.Machine
end

section
/-!
ZONE_COMMIT (R156, R164, R165): the rows of R164 in their order, with the two reserve checks of R156, and the marks
that an accepted request sets.
-/

namespace Sys2Proof.Machine

section
variable {s : State} {z : ZoneId}

theorem State.commitFault_pending (pending : (s.zone z).pending = true) :
    s.commitFault z = some .commitPending := if_pos pending

theorem State.commitFault_floor (settled : (s.zone z).pending = false)
    (crossed : (s.zone z).staged.ceiling < (s.zone z).staged.floor) :
    s.commitFault z = some (.badValue .floor) := by
  simp [State.commitFault, settled, crossed]

theorem State.commitFault_guard (settled : (s.zone z).pending = false)
    (ordered : (s.zone z).staged.floor ≤ (s.zone z).staged.ceiling)
    (same : ∃ a b, (s.zone z).staged.guards = [a, b] ∧ a.sensor = b.sensor) :
    s.commitFault z = some (.badValue .guard) := by
  simp [State.commitFault, settled, Nat.not_lt.2 ordered, (sameGuardSensor_iff _).2 same]

/-- No commit is pending, the limits are in order, and no two guard entries share a sensor: rows 2 to 4 of R164 pass. -/
structure State.RecordPasses (s : State) (z : ZoneId) : Prop where
  settled : (s.zone z).pending = false
  ordered : (s.zone z).staged.floor ≤ (s.zone z).staged.ceiling
  distinct : ¬∃ a b, (s.zone z).staged.guards = [a, b] ∧ a.sensor = b.sensor

/-- Past the rows on the record alone, the restricted difference and the two reserve checks are left. -/
theorem State.RecordPasses.commitFault_eq (passes : s.RecordPasses z) :
    s.commitFault z =
      if restrictedDiffers (s.zone z).staged (s.zone z).live = true ∧ (s.zone z).zr.state ≠ .idle then some .notIdle
      else if s.reservesExceed z = true ∨ s.poolTooFull z = true then some (.badValue .reserve)
      else none := by
  obtain ⟨settled, ordered, distinct⟩ := passes
  simp only [State.commitFault, settled, Nat.not_lt.2 ordered, mt (sameGuardSensor_iff _).1 distinct,
    Bool.false_eq_true, if_false]

section
variable (passes : s.RecordPasses z)
include passes

theorem State.commitFault_notIdle
    (busy : ¬(RestrictedDiffer (s.zone z).staged (s.zone z).live → (s.zone z).zr.state = .idle)) :
    s.commitFault z = some .notIdle := by
  obtain ⟨differs, active⟩ := Classical.not_imp.1 busy
  rw [passes.commitFault_eq]
  exact if_pos ⟨(restrictedDiffers_iff _ _).2 differs, active⟩

variable (reserved : RestrictedDiffer (s.zone z).staged (s.zone z).live → (s.zone z).zr.state = .idle)
include reserved

/-- Past the restricted difference, the two reserve checks are left. -/
theorem State.commitFault_reserved : s.commitFault z =
    if s.reservesExceed z = true ∨ s.poolTooFull z = true then some (.badValue .reserve) else none := by
  rw [passes.commitFault_eq]
  exact if_neg fun ⟨differs, busy⟩ => busy (reserved ((restrictedDiffers_iff _ _).1 differs))

theorem State.commitFault_reserve (exceeds : ¬(ReservesFit s z ∧ PoolHasRoom s z)) :
    s.commitFault z = some (.badValue .reserve) := by
  rw [← State.reservesExceed_eq_false, ← State.poolTooFull_eq_false, not_and_or] at exceeds
  rw [State.commitFault_reserved passes reserved]
  exact if_pos (exceeds.imp Bool.eq_true_of_not_eq_false Bool.eq_true_of_not_eq_false)

theorem State.commitFault_none (fits : ReservesFit s z) (room : PoolHasRoom s z) : s.commitFault z = none := by
  rw [State.commitFault_reserved passes reserved, (s.reservesExceed_eq_false z).2 fits,
    (s.poolTooFull_eq_false z).2 room]
  rfl

end

theorem blockZoneCommit_refused {st : Status} (h : s.commitFault z = some st) :
    blockZoneCommit [byte z.val] s = (st.bytes, s) := by
  simp [blockZoneCommit, onZone, h, refuse]

theorem blockZoneCommit_accepted (h : s.commitFault z = none) {mark : Bool}
    (marked : mark = true ↔ RestrictedDiffer (s.zone z).staged (s.zone z).live) :
    blockZoneCommit [byte z.val] s =
      ([0x01], s.setZone z { s.zone z with pending := true, restricted := mark }) := by
  have mark_eq : restrictedDiffers (s.zone z).staged (s.zone z).live = mark :=
    Bool.eq_iff_iff.2 ((restrictedDiffers_iff _ _).trans marked.symm)
  simp [blockZoneCommit, onZone, h, mark_eq, Status.bytes]

end

/-- Settles O29, row by row of R164. -/
theorem zoneCommitIsJudgedInOrder : Obligations.ZoneCommitIsJudgedInOrder := by
  intro s q z p f x refused sameSensor reserved h
  have refusedWith {st : Status} (fault : s.commitFault z = some st) : refused st.bytes :=
    onlyAnswers_of_block h rfl rfl (blockZoneCommit_refused (s := s.wake.takeFrame) fault)
  refine ⟨fun pending => refusedWith (State.commitFault_pending pending), fun settled =>
    ⟨fun crossed => refusedWith (State.commitFault_floor settled crossed), fun ordered =>
      ⟨fun same => refusedWith (State.commitFault_guard settled ordered same), fun distinct => ?_⟩⟩⟩
  have passes : s.RecordPasses z := ⟨settled, ordered, distinct⟩
  refine ⟨fun busy => refusedWith (State.commitFault_notIdle passes busy),
    fun free exceeds => refusedWith (State.commitFault_reserve passes free exceeds),
    fun free fits room mark marked => ?_⟩
  have accepted : s.commitFault z = none := State.commitFault_none passes free fits room
  exact zoneAnswers_of_set h rfl rfl (blockZoneCommit_accepted (s := s.wake.takeFrame) accepted marked)

end Sys2Proof.Machine
end

section
/-!
The governor's stage (R149 to R151, R155): the free amount with the zone's own holding returned, the grant and the
draw made from it, and the change of the trim that is reported.
-/

namespace Sys2Proof.Machine

/-! ## The grant (R150, R151) -/

section
variable {p : Params} (free demand : Nat)

theorem governedGrant_ge : min demand p.reserve ≤ governedGrant p free demand :=
  min_le_min_left demand (Nat.le_add_right _ _)

/-- A draw is weight times the part of the grant above the reserve, which is no more than what one unit of weight finds
free. -/
theorem governedDraw_le : p.weight * (governedGrant p free demand - p.reserve) ≤ free :=
  calc p.weight * (governedGrant p free demand - p.reserve)
      ≤ p.weight * (free / p.weight) :=
        Nat.mul_le_mul_left _ (Nat.sub_le_iff_le_add'.2 (min_le_right _ _))
    _ ≤ free := Nat.mul_div_le _ _

theorem grantOf_governed {governor : Bool} (on : governor = true) (weighted : 0 < p.weight) :
    grantOf governor p free demand
      = (governedGrant p free demand, p.weight * (governedGrant p free demand - p.reserve)) :=
  if_pos ⟨on, weighted⟩

theorem grantOf_ungoverned {governor : Bool} (off : governor = false ∨ p.weight = 0) :
    grantOf governor p free demand = (demand, 0) :=
  if_neg fun ⟨on, weighted⟩ => off.elim (by simp [on]) (Nat.pos_iff_ne_zero.1 weighted)

theorem grantOf_le_demand (governor : Bool) : (grantOf governor p free demand).1 ≤ demand := by
  unfold grantOf
  split
  · exact min_le_left _ _
  · exact le_rfl

end

/-! ## The stage -/

section
variable (s : State) (z : ZoneId) (demand : Nat)

/-- The free amount at the governor's stage of a zone: its own holding has returned to the pool (R149, R150). -/
def State.freeFor : Nat :=
  s.device.live.budget * 4096 - s.countedReserves - sumZones (fun y => if y = z then 0 else (s.zone y).share.holding)

/-- A holding that returns changes no counted reserve and frees itself alone. -/
theorem State.freeAmount_returned : (s.setZone z (s.zone z).returnHolding).freeAmount = s.freeFor z := by
  have counted (y : ZoneId) : ((s.setZone z (s.zone z).returnHolding).zone y).counted = (s.zone y).counted := by
    by_cases own : y = z
    · simp [own, Zone.returnHolding, Zone.counted]
    · simp [own]
  have holding (y : ZoneId) : ((s.setZone z (s.zone z).returnHolding).zone y).share.holding
      = if y = z then 0 else (s.zone y).share.holding := by
    by_cases own : y = z <;> simp [own, Zone.returnHolding]
  simp only [State.freeAmount, State.freeFor, State.countedReserves, State.holdings, counted, holding,
    State.setZone_device]

/-- The grant and the draw that the stage makes. -/
def State.grantFor : Nat × Nat := grantOf s.device.live.governor (s.zone z).live (s.freeFor z) demand

/-- The zone as the stage leaves it: the draw is its holding, and it is trimmed by a grant below the demand (R155). -/
def State.grantedZone : Zone :=
  { s.zone z with
    share := { holding := (s.grantFor z demand).2, trimmed := decide ((s.grantFor z demand).1 < demand) } }

/-- A changed trim is reported, and nothing else is (R155). -/
theorem State.governorStage_eq :
    s.governorStage z demand = ((s.grantFor z demand).1,
      if decide ((s.grantFor z demand).1 < demand) = (s.zone z).share.trimmed then
        (s.setZone z (s.zone z).returnHolding).setZone z (s.grantedZone z demand)
      else
        ((s.setZone z (s.zone z).returnHolding).setZone z (s.grantedZone z demand)).submit
          (.budget z (decide ((s.grantFor z demand).1 < demand)))) := by
  simp only [State.governorStage, State.freeAmount_returned, State.zone_setZone, if_true, State.setZone_device]
  rfl

theorem State.governorStage_grant : (s.governorStage z demand).1 = (s.grantFor z demand).1 := by
  rw [State.governorStage_eq]

theorem State.governorStage_zone (y : ZoneId) :
    (s.governorStage z demand).2.zone y = if y = z then s.grantedZone z demand else s.zone y := by
  rw [State.governorStage_eq]
  dsimp only
  split <;> by_cases own : y = z <;> simp [own]

theorem State.governorStage_link :
    (s.governorStage z demand).2.link =
      if decide ((s.grantFor z demand).1 < demand) = (s.zone z).share.trimmed then s.link
      else s.link.submit (.budget z (decide ((s.grantFor z demand).1 < demand))) := by
  rw [State.governorStage_eq]
  dsimp only
  split <;> rfl

/-- What the stage leaves as it was: all but its zone and the report queue. -/
theorem State.governorStage_keeps :
    (s.governorStage z demand).2.store = s.store ∧ (s.governorStage z demand).2.device = s.device
    ∧ SamePlant s (s.governorStage z demand).2 ∧ (s.governorStage z demand).2.pending = s.pending := by
  rw [State.governorStage_eq]
  dsimp only
  split <;> simp [SamePlant]

end

/-- Settles O50, from what the stage grants, what it makes of the zone, and what it leaves. -/
theorem grantFollowsTheRule : Obligations.GrantFollowsTheRule := by
  intro s z demand x p counted free g t
  have grant : g = (s.grantFor z demand).1 := s.governorStage_grant z demand
  have zone : t.zone z = s.grantedZone z demand := by simp [t, State.governorStage_zone]
  have holding : (t.zone z).share.holding = (s.grantFor z demand).2 := by rw [zone]; rfl
  have freeIs : s.freeFor z = free := rfl
  refine ⟨fun on weighted => ?_, fun off => ?_, ?_, ?_, fun y other => ?_, ?_, s.governorStage_keeps z demand⟩
  · have made : s.grantFor z demand = _ := grantOf_governed (s.freeFor z) demand on weighted
    rw [grant, holding, made, freeIs]
    exact ⟨rfl, rfl, governedGrant_ge free demand, governedDraw_le free demand⟩
  · have made : s.grantFor z demand = _ := grantOf_ungoverned (s.freeFor z) demand off
    rw [grant, holding, made]
    exact ⟨rfl, rfl⟩
  · rw [grant]
    exact grantOf_le_demand ..
  · rw [holding, zone, grant]
    rfl
  · simp [t, State.governorStage_zone, other]
  · rw [grant]
    exact s.governorStage_link z demand

end Sys2Proof.Machine
end

section
/-!
DEVICE_SET and DEVICE_GET (R169, R201, R204): the staged record with the carried fields written into it, and the copy
that is shown.
-/

namespace Sys2Proof.Machine

/-! ## DEVICE_SET -/

/-- A code that names a cycle length is the code of the length it names (R204). -/
theorem cycleOf_code {n : Nat} {c : CycleLength} (named : cycleOf n = some c) : c.code.toNat = n := by
  unfold cycleOf at named
  split at named <;> cases named <;> rfl

/-- A carried cycle length in its range is written as it was sent. -/
theorem deviceWith_cycle {p : List Byte} (inRange : AllInRange (deviceFields p)) (d : DeviceRec) :
    if bitAt p 0 0 then (deviceWith p d).cycle.code = at8 p 1 else (deviceWith p d).cycle = d.cycle := by
  split
  · next isCarried =>
    have listed : nat8 p 1 ∈ [2, 8, 32, 128] := inRange _ (List.mem_cons_self ..) isCarried
    have known : (cycleOf (nat8 p 1)).isNone = false :=
      (cycleOf_isNone _).trans (decide_eq_false (not_not_intro listed))
    obtain ⟨c, named⟩ := Option.isSome_iff_exists.1 (Option.isNone_eq_false_iff.1 known)
    have written : (deviceWith p d).cycle = c := by simp [deviceWith, isCarried, named]
    rw [written]
    exact BitVec.eq_of_toNat_eq (cycleOf_code named)
  · next isNot => simp [deviceWith, isNot]

section
variable {p : List Byte} {s : State}

theorem blockDeviceSet_pending (pending : s.device.pending = true) : blockDeviceSet p s = ([0x16], s) := if_pos pending

theorem blockDeviceSet_refused (settled : s.device.pending = false) {f : Field} (fault : deviceFault p = some f) :
    blockDeviceSet p s = ([0x12, f.code], s) := by
  simp [blockDeviceSet, settled, fault, refuse, Status.bytes]

theorem blockDeviceSet_accepted (settled : s.device.pending = false) (fault : deviceFault p = none) :
    blockDeviceSet p s =
      ([0x00], { s with device := { s.device with staged := deviceWith p s.device.staged } }) := by
  simp [blockDeviceSet, settled, fault, Status.bytes]

end

/-! ## DEVICE_GET -/

theorem blockDeviceGet_refused {v : Byte} (above : 1 < v.toNat) (s : State) :
    blockDeviceGet [v] s = ([0x12, 34], s) := if_pos above

/-- The device record form, byte by byte (R204). -/
theorem DeviceRec.bytes_eq (d : DeviceRec) :
    d.bytes = [(match d.cycle with | .ms2 => 2 | .ms8 => 8 | .ms32 => 32 | .ms128 => 128),
      flagByte d.governor, byte (d.budget / 256), byte d.budget, byte d.timeout, flagByte d.ack, byte d.resend] := by
  unfold DeviceRec.bytes
  cases d.cycle <;> rfl

theorem blockDeviceGet_eq (staged : Bool) (s : State) :
    blockDeviceGet [flagByte staged] s =
      ([0x00, flagByte staged, flagByte s.device.pending]
        ++ (if staged then s.device.staged else s.device.live).bytes, s) := by
  cases staged <;> rfl

/-- Settles O10: the fields are judged in the order of R169, an accepted request writes the staged record, and the copy
shown is its form. -/
theorem deviceSetAndDeviceGet : Obligations.DeviceSetAndDeviceGet := by
  refine ⟨fun s q p h length => ?_,
    fun s q v h above => onlyAnswers_of_block h rfl rfl (blockDeviceGet_refused above _), fun s q staged h => ?_⟩
  · obtain ⟨accepts, refuses⟩ := deviceFault_agrees p
    have allowed : hasLength 8 p = true := by simpa [hasLength] using length
    refine ⟨fun pending => onlyAnswers_of_block h rfl allowed (blockDeviceSet_pending (s := s.wake.takeFrame) pending),
      fun settled code bad => ?_, fun settled inRange => ?_⟩
    · obtain ⟨field, fault, rfl⟩ := (refuses code).1 bad
      exact onlyAnswers_of_block h rfl allowed (blockDeviceSet_refused (s := s.wake.takeFrame) settled fault)
    · have step := exec_of_block (c := .deviceSet q p) (block := blockDeviceSet p) h rfl allowed
      rw [blockDeviceSet_accepted (s := s.wake.takeFrame) settled (accepts.2 inRange)] at step
      exact ⟨_, deviceWith p s.device.staged, step, answered_of_same rfl, sameReports_of_block rfl, rfl,
        deviceWith_cycle inRange _, rfl, rfl, rfl, rfl, rfl, rfl, rfl, ⟨rfl, rfl, rfl, rfl⟩, rfl⟩
  · have shown := onlyAnswers_of_block (c := .deviceGet q [flagByte staged]) h rfl rfl
      (blockDeviceGet_eq staged s.wake.takeFrame)
    rw [DeviceRec.bytes_eq] at shown
    exact shown

end Sys2Proof.Machine
end

section
/-!
ZONE_SET_PARAM (R160, R162, R201, R211): the fields judged in the order of R160's table, and the staged record with the
carried ones written into it.
-/

namespace Sys2Proof.Machine

/-! ## The coded fields (R202) -/

theorem nibbleAt_val {p : List Byte} {i : Nat} (inRange : nat8 p i ≤ 15) :
    (nibbleAt p i).map Fin.val = some (nat8 p i) := by
  have below : nat8 p i < 16 := Nat.lt_succ_of_le inRange
  simp [nibbleAt, below]

/-- A byte in the range of a two-valued field is one of its two codes. -/
theorem at8_of_le_one {p : List Byte} {i : Nat} (inRange : nat8 p i ≤ 1) : at8 p i = if nat8 p i = 0 then 0 else 1 := by
  apply BitVec.eq_of_toNat_eq
  change nat8 p i = _
  split
  · assumption
  · simp
    omega

theorem holdAction_code {p : List Byte} {i : Nat} (inRange : nat8 p i ≤ 1) :
    (if nat8 p i = 0 then HoldAction.fallback else .regulate).code = at8 p i := by
  rw [at8_of_le_one inRange]
  split <;> rfl

theorem polarity_code {p : List Byte} {i : Nat} (inRange : nat8 p i ≤ 1) :
    (if nat8 p i = 0 then Polarity.activeHigh else .activeLow).code = at8 p i := by
  rw [at8_of_le_one inRange]
  split <;> rfl

/-- A report selection of four bits is sent as it was read. -/
theorem selectionOf_code {b : Byte} (inRange : b.toNat ≤ 15) : (selectionOf b).code = b := by
  revert b
  decide

/-! ## The guard list (R110, R211) -/

/-- A guard entry as it was sent, its sensor in its range. -/
theorem guardAt_reads {p : List Byte} {i : Nat} (inRange : GuardInRange p i) :
    (guardAt p i).sensor.val = nat8 p i ∧ (guardAt p i).high = int16 p (i + 2)
    ∧ (guardAt p i).low = (if bitAt p (i + 1) 0 then some (int16 p (i + 4)) else none)
    ∧ (guardAt p i).qualify = nat8 p (i + 6) := by
  obtain ⟨sensor, -, -⟩ := inRange
  exact ⟨Nat.mod_eq_of_lt (Nat.lt_succ_of_le sensor), rfl, rfl, rfl⟩

/-- A guard list in its range has as many entries as it was sent with, each as it was sent. -/
theorem guardsOf_reads {p : List Byte} (count : nat8 p 24 ≤ 2) (first : 1 ≤ nat8 p 24 → GuardInRange p 25)
    (second : 2 ≤ nat8 p 24 → GuardInRange p 32) :
    (guardsOf p).length = nat8 p 24
    ∧ ∀ n g, (guardsOf p)[n]? = some g →
        g.sensor.val = nat8 p (25 + 7 * n) ∧ g.high = int16 p (27 + 7 * n)
        ∧ g.low = (if bitAt p (26 + 7 * n) 0 then some (int16 p (29 + 7 * n)) else none)
        ∧ g.qualify = nat8 p (31 + 7 * n) := by
  obtain empty | one | two : nat8 p 24 = 0 ∨ nat8 p 24 = 1 ∨ nat8 p 24 = 2 := by omega
  · simp [guardsOf, empty]
  · have list : guardsOf p = [guardAt p 25] := by simp [guardsOf, one]
    rw [list, one]
    refine ⟨rfl, fun n g at_n => ?_⟩
    match n with
    | 0 => cases at_n; exact guardAt_reads (first one.ge)
    | n + 1 => simp at at_n
  · have list : guardsOf p = [guardAt p 25, guardAt p 32] := by simp [guardsOf, two]
    rw [list, two]
    refine ⟨rfl, fun n g at_n => ?_⟩
    match n with
    | 0 => cases at_n; exact guardAt_reads (first (by omega))
    | 1 => cases at_n; exact guardAt_reads (second two.ge)
    | n + 2 => simp at at_n

/-! ## The staged record -/

/-- The carried fields whose value as read is the value as sent only within its range (R160, R211). -/
structure CarriedInRange (p : List Byte) : Prop where
  feedback : carried p 0 = true → bitAt p 3 0 = false → nat8 p 4 ≤ 15
  hold : carried p 7 = true → nat8 p 17 ≤ 1
  polarity : carried p 12 = true → nat8 p 23 ≤ 1
  guards : carried p 13 = true →
    nat8 p 24 ≤ 2 ∧ (1 ≤ nat8 p 24 → GuardInRange p 25) ∧ (2 ≤ nat8 p 24 → GuardInRange p 32)
  reports : carried p 14 = true → nat8 p 39 ≤ 15

theorem carriedInRange_of_allInRange {p : List Byte} (inRange : AllInRange (paramFields p)) : CarriedInRange p where
  feedback := inRange (_, 7) (by simp [paramFields])
  hold := inRange (_, 14) (by simp [paramFields])
  polarity := inRange (_, 19) (by simp [paramFields])
  guards := inRange (_, 20) (by simp [paramFields])
  reports := inRange (_, 21) (by simp [paramFields])

section
variable {p : List Byte} (c : CarriedInRange p) (old : Params)
include c

theorem CarriedInRange.feedback_written :
    if carried p 0 then (if bitAt p 3 0 then (paramsWith p old).feedback = none
      else (paramsWith p old).feedback.map Fin.val = some (nat8 p 4))
    else (paramsWith p old).feedback = old.feedback := by
  split
  · next on =>
    split
    · next absent => simp [paramsWith, on, absent]
    · next present => simpa [paramsWith, on, present] using nibbleAt_val (c.feedback on (Bool.eq_false_iff.2 present))
  · next off => exact if_neg off

theorem CarriedInRange.hold_written :
    if carried p 7 then (paramsWith p old).hold.code = at8 p 17 else (paramsWith p old).hold = old.hold := by
  split
  · next on => rw [← holdAction_code (c.hold on)]; exact congrArg _ (if_pos on)
  · next off => exact if_neg off

theorem CarriedInRange.polarity_written :
    if carried p 12 then (paramsWith p old).polarity.code = at8 p 23
    else (paramsWith p old).polarity = old.polarity := by
  split
  · next on => rw [← polarity_code (c.polarity on)]; exact congrArg _ (if_pos on)
  · next off => exact if_neg off

theorem CarriedInRange.guards_written :
    if carried p 13 then (paramsWith p old).guards.length = nat8 p 24
      ∧ (∀ n g, (paramsWith p old).guards[n]? = some g →
          g.sensor.val = nat8 p (25 + 7 * n) ∧ g.high = int16 p (27 + 7 * n)
          ∧ g.low = (if bitAt p (26 + 7 * n) 0 then some (int16 p (29 + 7 * n)) else none)
          ∧ g.qualify = nat8 p (31 + 7 * n))
    else (paramsWith p old).guards = old.guards := by
  split
  · next on =>
    obtain ⟨count, first, second⟩ := c.guards on
    rw [show (paramsWith p old).guards = guardsOf p from if_pos on]
    exact guardsOf_reads count first second
  · next off => exact if_neg off

theorem CarriedInRange.reports_written :
    if carried p 14 then (paramsWith p old).reports.code = at8 p 39 else (paramsWith p old).reports = old.reports := by
  split
  · next on => exact (congrArg _ (if_pos on)).trans (selectionOf_code (c.reports on))
  · next off => exact if_neg off

end

/-! ## The request -/

section
variable {z : ZoneId} {rest : List Byte} {s : State}

theorem blockZoneSetParam_pending (pending : (s.zone z).pending = true) :
    blockZoneSetParam (byte z.val :: rest) s = ([0x16], s) := by
  simp [blockZoneSetParam, onZone, pending, refuse, Status.bytes]

theorem blockZoneSetParam_refused (settled : (s.zone z).pending = false) {f : Field}
    (fault : paramFault (byte z.val :: rest) = some f) :
    blockZoneSetParam (byte z.val :: rest) s = ([0x12, f.code], s) := by
  simp [blockZoneSetParam, onZone, settled, fault, refuse, Status.bytes]

theorem blockZoneSetParam_accepted (settled : (s.zone z).pending = false)
    (fault : paramFault (byte z.val :: rest) = none) :
    blockZoneSetParam (byte z.val :: rest) s =
      ([0x00], s.setZone z { s.zone z with staged := paramsWith (byte z.val :: rest) (s.zone z).staged }) := by
  simp [blockZoneSetParam, onZone, settled, fault, Status.bytes]

end

/-- Settles O26: the fields are judged in the order of R162, and an accepted request writes the staged record. -/
theorem setParamWritesTheCarriedFields : Obligations.SetParamWritesTheCarriedFields := by
  intro s q z rest p f x old h length
  obtain ⟨accepts, refuses⟩ := paramFault_agrees p
  have allowed : hasLength 40 p = true := by simpa [hasLength] using length
  refine ⟨fun pending => onlyAnswers_of_block h rfl allowed (blockZoneSetParam_pending (s := s.wake.takeFrame) pending),
    fun settled code bad => ?_, fun settled inRange => ?_⟩
  · obtain ⟨field, fault, rfl⟩ := (refuses code).1 bad
    exact onlyAnswers_of_block h rfl allowed (blockZoneSetParam_refused (s := s.wake.takeFrame) settled fault)
  · have accepted := blockZoneSetParam_accepted (s := s.wake.takeFrame) settled (accepts.2 inRange)
    have c := carriedInRange_of_allInRange inRange
    exact ⟨paramsWith p old, zoneAnswers_of_set h rfl allowed accepted, c.feedback_written old, rfl, rfl, rfl, rfl, rfl,
      rfl, c.hold_written old, rfl, rfl, rfl, rfl, c.polarity_written old, c.guards_written old, c.reports_written old⟩

end Sys2Proof.Machine
end

section
/-!
ZONE_GET_PARAM (R163, R201, R211) and ZONE_DISCARD (R167).
-/

namespace Sys2Proof.Machine

/-- A zone request whose block sets its zone and submits reports one after another. -/
theorem zoneAnswers_of_submitAll {c : Instr} {s : State} {f : WireFrame} {ok : Bool} {payload : List Byte}
    {block : State → Answer} {z : ZoneId} {x : Zone} {rs : List Report}
    (h : Executes s f) (hc : exec c s = s.carryOut (·.serve f ok block)) (hok : ok = true)
    (hb : block s.wake.takeFrame = (payload, (s.wake.takeFrame.setZone z x).submitAll rs)) :
    ZoneAnswers c s f payload z x rs :=
  zoneAnswers_of_block h hc hok hb (by simp [State.setZone, State.takeFrame]) (by simp) (by simp) (by simp)
    (by simp [SamePlant]) (by simp)

section
variable (z : ZoneId) (s : State)

theorem blockZoneGetParam_refused {v : Byte} (above : 1 < v.toNat) :
    blockZoneGetParam [byte z.val, v] s = ([0x12, 34], s) := by
  simp [blockZoneGetParam, onZone, above, refuse, Status.bytes, Field.code]

theorem blockZoneGetParam_eq (staged : Bool) :
    blockZoneGetParam [byte z.val, flagByte staged] s =
      ([0x00, byte z.val, flagByte staged,
          byte ((if (s.zone z).pending then 1 else 0) + (if (s.zone z).restricted then 2 else 0))]
        ++ (if staged then (s.zone z).staged else (s.zone z).live).bytes, s) := by
  cases staged <;> simp [blockZoneGetParam, onZone, flagByte, flagBit, Status.bytes]

/-- The zone once its staged copy is the live one and no commit is pending, and the report of a commit so ended. -/
theorem blockZoneDiscard_eq :
    blockZoneDiscard [byte z.val] s =
      ([0x00],
        (s.setZone z { s.zone z with staged := (s.zone z).live, pending := false, restricted := false }).submitAll
          (if (s.zone z).pending then [.committed (some z) .cancelled] else [])) := by
  simp only [blockZoneDiscard, onZone, zoneOf_byte, Status.bytes]
  split <;> rfl

end

/-- Settles O27: the copy is shown as it stands, and a discard ends the pending commit with its report. -/
theorem getParamAnswersAndDiscardCancels : Obligations.GetParamAnswersAndDiscardCancels := by
  refine ⟨⟨fun s q z v h above => ?_, fun s q z staged => ?_⟩, fun s q z => ?_⟩
  · exact onlyAnswers_of_block h rfl rfl (blockZoneGetParam_refused z _ above)
  · intro p x h
    exact onlyAnswers_of_block h rfl rfl (blockZoneGetParam_eq z s.wake.takeFrame staged)
  · intro p x h
    exact zoneAnswers_of_submitAll h rfl rfl (blockZoneDiscard_eq z s.wake.takeFrame)

end Sys2Proof.Machine
end

section
/-!
SUPPORT. What every row leaves of the waiting commands, operation by operation: no operation of the part reads or
writes them.
-/

namespace Sys2Proof.Machine

section
variable (s : State) (z : ZoneId)

@[simp] theorem State.holdZone_pending (c : Cause) (why : StateReason) : (s.holdZone z c why).pending = s.pending := by
  unfold State.holdZone
  dsimp only
  split <;> simp

@[simp] theorem State.trip_pending (c : TripCause) (g : Option TripGuard) : (s.trip z c g).pending = s.pending := by
  obtain ⟨-, -, -, -, -, -, pending⟩ := s.trip_keeps z c g
  exact pending

@[simp] theorem State.tripAll_pending (c : TripCause) : (s.tripAll c).pending = s.pending := by
  obtain ⟨-, -, -, -, -, pending⟩ := s.tripAll_spec c
  exact pending

@[simp] theorem State.takePending_pending (order : List SensorId) : (s.takePending order).pending = s.pending := by
  obtain ⟨-, -, -, -, -, pending⟩ := s.takePending_keeps order
  exact pending

/-- An operation repeated along a list leaves the waiting commands where each of its steps does. -/
theorem foldl_pending {α : Type} {f : State → α → State} (h : ∀ u a, (f u a).pending = u.pending)
    (l : List α) : (l.foldl f s).pending = s.pending :=
  List.foldlRecOn (motive := fun u => u.pending = s.pending) l f rfl fun u hu a _ => (h u a).trans hu

/-! ## The boundaries, the converter and the pins -/

@[simp] theorem State.stagingStage_pending : (s.stagingStage z).pending = s.pending := by
  unfold State.stagingStage
  split <;> simp

@[simp] theorem State.executorStage_pending (u : Update) : (s.executorStage z u).pending = s.pending := by
  unfold State.executorStage
  dsimp only
  split <;> simp

@[simp] theorem State.governorStage_pending (demand : Nat) : (s.governorStage z demand).2.pending = s.pending := by
  unfold State.governorStage
  dsimp only
  split <;> simp

@[simp] theorem State.boundary_pending : (s.boundary z).pending = s.pending := by
  simp [State.boundary]

@[simp] theorem State.cycleZone_pending : (s.cycleZone z).pending = s.pending := by
  unfold State.cycleZone
  split <;> simp

@[simp] theorem State.beginCycle_pending : s.beginCycle.pending = s.pending := by
  change s.applyDevice.pending = s.pending
  unfold State.applyDevice
  split <;> simp

@[simp] theorem State.loseLink_pending : s.loseLink.pending = s.pending := by
  unfold State.loseLink
  split <;> simp

@[simp] theorem State.holdForLink_pending : (s.holdForLink z).pending = s.pending := s.holdZone_pending z _ _

@[simp] theorem State.startCycle_pending (order : List CycleEvent) : (s.startCycle order).pending = s.pending := by
  unfold State.startCycle
  rw [State.startTick_pending]
  refine foldl_pending s (fun u e => ?_) _
  cases e <;> simp [State.cycleEvent]

@[simp] theorem State.evaluateZone_pending (o : Offer) : (s.evaluateZone o z).pending = s.pending := by
  unfold State.evaluateZone State.judgeZone
  dsimp only
  repeat' split
  all_goals simp

@[simp] theorem State.handleReading_pending (i : SensorId) (code : Nat) :
    (s.handleReading i code).pending = s.pending := by
  unfold State.handleReading
  refine (foldl_pending _ (fun u z => u.evaluateZone_pending z _) _).trans ?_
  split <;> simp

@[simp] theorem State.nextConversion_pending (index : Nat) (order : List SensorId) :
    (s.nextConversion index order).pending = s.pending := by
  unfold State.nextConversion
  split <;> simp

/-! ## The line -/

@[simp] theorem State.goodFrame_pending (f : WireFrame) : (s.goodFrame f).pending = s.pending := by
  simp [State.goodFrame]

@[simp] theorem State.collect_pending (bytes : List Byte) : (s.collect bytes).pending = s.pending := by
  unfold State.collect
  repeat' split
  all_goals simp

@[simp] theorem State.endFrame_pending : s.endFrame.pending = s.pending := by
  unfold State.endFrame
  split <;> rfl

end

end Sys2Proof.Machine
end

section
/-!
SUPPORT. What the rows of the executor are: a frame of the row's KIND offered with a block, which refuses a number out
of range before anything else (R5, R49, R106, R107, R179 to R181).
-/

namespace Sys2Proof.Machine

/-! ## Numbers out of range -/

section
variable {p : List Byte} {field : Byte}

/-- A zone number above 11 is refused before the block sees the request (R49). -/
theorem onZone_above {block : State → ZoneId → Answer}
    (h : (if 11 < nat8 p 0 then some 1 else none) = some field) (u : State) :
    onZone p u (block u) = ([0x12, field], u) := by
  split at h
  · next above =>
    cases h
    simp [onZone, zoneOf_none above, refuse, Status.bytes, Field.code]
  · cases h

/-- A slot number above 15 is refused before the block sees the request (R5). -/
theorem onSlot_above {block : State → SlotId → Answer}
    (h : (if 15 < nat8 p 0 then some 2 else none) = some field) (u : State) :
    onSlot p u (block u) = ([0x12, field], u) := by
  split at h
  · next above =>
    cases h
    simp [onSlot, nibbleAt_none above, refuse, Status.bytes, Field.code]
  · cases h

/-- A sensor number above 15 is refused before the block sees the request (R106, R107). -/
theorem onSensor_above {block : State → SensorId → Answer}
    (h : (if 15 < nat8 p 0 then some 6 else none) = some field) (u : State) :
    onSensor p u (block u) = ([0x12, field], u) := by
  split at h
  · next above =>
    cases h
    simp [onSensor, nibbleAt_none above, refuse, Status.bytes, Field.code]
  · cases h

end

/-! ## Blocks leave the waiting commands -/

/-- A block that leaves the waiting commands as they are. -/
def KeepsPending (block : State → Answer) : Prop := ∀ u, (block u).2.pending = u.pending

section
variable {p : List Byte} (u : State)

theorem onZone_pending {block : ZoneId → Answer} (h : ∀ z, (block z).2.pending = u.pending) :
    (onZone p u block).2.pending = u.pending := onZone_keeps (I := fun v => v.pending = u.pending) rfl h

theorem onSlot_pending {block : SlotId → Answer} (h : ∀ k, (block k).2.pending = u.pending) :
    (onSlot p u block).2.pending = u.pending := onSlot_keeps (I := fun v => v.pending = u.pending) rfl h

theorem onSensor_pending {block : SensorId → Answer} (h : ∀ i, (block i).2.pending = u.pending) :
    (onSensor p u block).2.pending = u.pending := onSensor_keeps (I := fun v => v.pending = u.pending) rfl h

end

section
variable (p : List Byte)

theorem keepsPending_allStop : KeepsPending blockAllStop := fun u => u.tripAll_pending .hostAll

theorem keepsPending_deviceSet : KeepsPending (blockDeviceSet p) := fun u => by
  unfold blockDeviceSet
  repeat' split
  all_goals rfl

theorem keepsPending_deviceGet : KeepsPending (blockDeviceGet p) := fun u => by
  unfold blockDeviceGet
  split <;> rfl

theorem keepsPending_deviceCommit : KeepsPending blockDeviceCommit := fun u => by
  unfold blockDeviceCommit
  split <;> rfl

theorem keepsPending_progOpen : KeepsPending (blockProgOpen p) := fun u => onSlot_pending u fun k => by
  dsimp only
  split <;> rfl

theorem keepsPending_progAppend : KeepsPending (blockProgAppend p) := fun u => onSlot_pending u fun k => by
  dsimp only
  repeat' split
  all_goals rfl

theorem keepsPending_progSeal : KeepsPending (blockProgSeal p) := fun u => onSlot_pending u fun k => by
  dsimp only
  repeat' split
  all_goals rfl

theorem keepsPending_progDelete : KeepsPending (blockProgDelete p) := fun u => onSlot_pending u fun k => by
  dsimp only
  split <;> rfl

theorem keepsPending_progInfo : KeepsPending (blockProgInfo p) := fun u => onSlot_pending u fun _ => rfl

theorem keepsPending_progRead : KeepsPending (blockProgRead p) := fun u => onSlot_pending u fun k => by
  dsimp only
  repeat' split
  all_goals rfl

theorem keepsPending_zoneStart : KeepsPending (blockZoneStart p) := fun u => onZone_pending u fun z => by
  split
  · rfl
  split
  · rfl
  · simp [State.startZone]

theorem keepsPending_zoneAbort : KeepsPending (blockZoneAbort p) := fun u => onZone_pending u fun z => by
  dsimp only
  split <;> simp [refuse]

theorem keepsPending_zonePause : KeepsPending (blockZonePause p) := fun u => onZone_pending u fun z => by
  dsimp only
  split <;> simp [refuse]

theorem keepsPending_zoneResume : KeepsPending (blockZoneResume p) := fun u => onZone_pending u fun z => by
  dsimp only
  split
  · rfl
  · dsimp only
    split <;> simp

theorem keepsPending_zoneStep : KeepsPending (blockZoneStep p) := fun u => onZone_pending u fun z => by
  dsimp only
  repeat' split
  all_goals simp [refuse]

theorem keepsPending_zoneSkip : KeepsPending (blockZoneSkip p) := fun u => onZone_pending u fun z => by
  dsimp only
  split <;> rfl

theorem keepsPending_zoneTrip : KeepsPending (blockZoneTrip p) := fun u => onZone_pending u fun z => by
  dsimp only
  split <;> simp [refuse]

theorem keepsPending_zoneClearTrip : KeepsPending (blockZoneClearTrip p) := fun u => onZone_pending u fun z => by
  dsimp only
  repeat' split
  all_goals simp [refuse]

theorem keepsPending_zoneStatus : KeepsPending (blockZoneStatus p) := fun u => onZone_pending u fun _ => rfl

theorem keepsPending_zoneSetParam : KeepsPending (blockZoneSetParam p) := fun u => onZone_pending u fun z => by
  dsimp only
  repeat' split
  all_goals rfl

theorem keepsPending_zoneGetParam : KeepsPending (blockZoneGetParam p) := fun u => onZone_pending u fun z => by
  dsimp only
  split <;> rfl

theorem keepsPending_zoneCommit : KeepsPending (blockZoneCommit p) := fun u => onZone_pending u fun z => by
  dsimp only
  split <;> rfl

theorem keepsPending_zoneDiscard : KeepsPending (blockZoneDiscard p) := fun u => onZone_pending u fun z => by
  dsimp only
  split <;> rfl

theorem keepsPending_sensorSet : KeepsPending (blockSensorSet p) := fun u => onSensor_pending u fun i => by
  split <;> rfl

theorem keepsPending_sensorRead : KeepsPending (blockSensorRead p) := fun u => onSensor_pending u fun _ => rfl

theorem keepsPending_scanSet : KeepsPending (blockScanSet p) := fun u => by
  unfold blockScanSet
  split
  · rfl
  · dsimp only
    split <;> simp

end

/-! ## The request rows -/

/-- A row of one of the 31 request kinds: its frame is offered with its block, which sees it when the payload length is
one that the kind allows (R181), refuses a number out of range, and leaves the waiting commands. -/
structure RequestRow (c : Instr) (f : WireFrame) (block : State → Answer) : Prop where
  exec_eq : ∀ s, exec c s = s.carryOut (·.serve f (lengthAllowed c) block)
  refuses : ∀ field, numberRefused c = some field → ∀ u, block u = ([0x12, field], u)
  pending : KeepsPending block

/-- The rows of the executor: one of a request kind, or a frame whose KIND the row does not fix. -/
theorem requestRow_cases {c : Instr} {f : WireFrame} (h : requestFrame c = some f) :
    (∃ block, RequestRow c f block)
    ∨ c = .retry f.seq f.kind f.payload ∨ c = .unknownKind f.seq f.kind f.payload := by
  cases c with
  | retry | unknownKind => cases h; simp
  | goodFrame | frameCrc | frameLength | frameGap | silenceTimerExpiry | goBack | frameSent | softReset | hardReset
  | tick | cycleStart | conversionCompletion | stopSample | receivedByte => cases h
  | ping | identify | restart | ackReports | scanGet =>
    cases h
    exact .inl ⟨_, fun _ => rfl, fun _ k => (by cases k), fun _ => rfl⟩
  | allStop => cases h; exact .inl ⟨_, fun _ => rfl, fun _ k => (by cases k), keepsPending_allStop⟩
  | deviceSet q p => cases h; exact .inl ⟨_, fun _ => rfl, fun _ k => (by cases k), keepsPending_deviceSet p⟩
  | deviceGet q p => cases h; exact .inl ⟨_, fun _ => rfl, fun _ k => (by cases k), keepsPending_deviceGet p⟩
  | deviceCommit => cases h; exact .inl ⟨_, fun _ => rfl, fun _ k => (by cases k), keepsPending_deviceCommit⟩
  | progOpen q p => cases h; exact .inl ⟨_, fun _ => rfl, fun _ => onSlot_above, keepsPending_progOpen p⟩
  | progAppend q p =>
    cases h
    refine .inl ⟨blockProgAppend p, fun s => ?_, fun _ => onSlot_above, keepsPending_progAppend p⟩
    rw [lengthAllowed, ← appendLengthOk_eq]
    rfl
  | progSeal q p => cases h; exact .inl ⟨_, fun _ => rfl, fun _ => onSlot_above, keepsPending_progSeal p⟩
  | progDelete q p => cases h; exact .inl ⟨_, fun _ => rfl, fun _ => onSlot_above, keepsPending_progDelete p⟩
  | progInfo q p => cases h; exact .inl ⟨_, fun _ => rfl, fun _ => onSlot_above, keepsPending_progInfo p⟩
  | progRead q p => cases h; exact .inl ⟨_, fun _ => rfl, fun _ => onSlot_above, keepsPending_progRead p⟩
  | zoneStart q p => cases h; exact .inl ⟨_, fun _ => rfl, fun _ => onZone_above, keepsPending_zoneStart p⟩
  | zoneAbort q p => cases h; exact .inl ⟨_, fun _ => rfl, fun _ => onZone_above, keepsPending_zoneAbort p⟩
  | zonePause q p => cases h; exact .inl ⟨_, fun _ => rfl, fun _ => onZone_above, keepsPending_zonePause p⟩
  | zoneResume q p => cases h; exact .inl ⟨_, fun _ => rfl, fun _ => onZone_above, keepsPending_zoneResume p⟩
  | zoneStep q p => cases h; exact .inl ⟨_, fun _ => rfl, fun _ => onZone_above, keepsPending_zoneStep p⟩
  | zoneSkip q p => cases h; exact .inl ⟨_, fun _ => rfl, fun _ => onZone_above, keepsPending_zoneSkip p⟩
  | zoneTrip q p => cases h; exact .inl ⟨_, fun _ => rfl, fun _ => onZone_above, keepsPending_zoneTrip p⟩
  | zoneClearTrip q p => cases h; exact .inl ⟨_, fun _ => rfl, fun _ => onZone_above, keepsPending_zoneClearTrip p⟩
  | zoneStatus q p => cases h; exact .inl ⟨_, fun _ => rfl, fun _ => onZone_above, keepsPending_zoneStatus p⟩
  | zoneSetParam q p => cases h; exact .inl ⟨_, fun _ => rfl, fun _ => onZone_above, keepsPending_zoneSetParam p⟩
  | zoneGetParam q p => cases h; exact .inl ⟨_, fun _ => rfl, fun _ => onZone_above, keepsPending_zoneGetParam p⟩
  | zoneCommit q p => cases h; exact .inl ⟨_, fun _ => rfl, fun _ => onZone_above, keepsPending_zoneCommit p⟩
  | zoneDiscard q p => cases h; exact .inl ⟨_, fun _ => rfl, fun _ => onZone_above, keepsPending_zoneDiscard p⟩
  | sensorSet q p => cases h; exact .inl ⟨_, fun _ => rfl, fun _ => onSensor_above, keepsPending_sensorSet p⟩
  | sensorRead q p => cases h; exact .inl ⟨_, fun _ => rfl, fun _ => onSensor_above, keepsPending_sensorRead p⟩
  | scanSet q p =>
    cases h
    refine .inl ⟨blockScanSet p, fun s => ?_, fun _ k => (by cases k), keepsPending_scanSet p⟩
    rw [lengthAllowed, ← scanLengthOk_eq]
    rfl

end Sys2Proof.Machine
end

section
/-!
The executor (R5, R49, R106, R107, R179 to R182): a frame that must wait, a frame that repeats the one before, and a
frame that is refused before its block sees it, whatever its row.
-/

namespace Sys2Proof.Machine

variable {c : Instr} {s : State} {f : WireFrame}

/-- The effect of a command is that on the state in which an IDLE transmitter has chosen. -/
theorem State.carryOut_congr {effect effect' : State → State} (h : effect s.wake = effect' s.wake) :
    s.carryOut effect = s.carryOut effect' := by
  rw [State.carryOut, State.carryOut, h]

/-! ## RETRY and UNKNOWN_KIND -/

/-- RETRY offers its frame where it matches the remembered one (R180). -/
theorem exec_retry_match (h : s.link.isRetry f = true) :
    exec (.retry f.seq f.kind f.payload) s = s.carryOut (·.serve f false (fun t => ([], t))) :=
  State.carryOut_congr (if_pos (by simpa using h))

theorem exec_retry_noMatch (h : s.link.isRetry f = false) :
    exec (.retry f.seq f.kind f.payload) s = .next s.wake :=
  State.carryOut_same (if_neg (by simpa using h))

/-- UNKNOWN_KIND offers a frame of none of the 31 request kinds (R181). -/
theorem exec_unknownKind_other (h : isRequestKind f.kind = false) :
    exec (.unknownKind f.seq f.kind f.payload) s
      = s.carryOut (·.serve f true (fun t => (Status.unknownKind.bytes, t))) :=
  State.carryOut_congr (effect := fun s => if isRequestKind f.kind then s else _) (if_neg (by simp [h]))

theorem exec_unknownKind_request (h : isRequestKind f.kind = true) :
    exec (.unknownKind f.seq f.kind f.payload) s = .next s.wake :=
  State.carryOut_same (effect := fun s => if isRequestKind f.kind then s else _) (if_pos h)

/-- Every row of the executor offers its frame with some block, or changes nothing: RETRY without a match and
UNKNOWN_KIND with a request kind (log entry 4). -/
theorem exec_serves (h : requestFrame c = some f) (s : State) :
    (∃ ok block, exec c s = s.carryOut (·.serve f ok block) ∧ KeepsPending block) ∨ exec c s = .next s.wake := by
  rcases requestRow_cases h with ⟨block, row⟩ | rfl | rfl
  · exact .inl ⟨_, block, row.exec_eq s, row.pending⟩
  · cases k : s.link.isRetry f with
    | true => exact .inl ⟨_, _, exec_retry_match k, fun _ => rfl⟩
    | false => exact .inr (exec_retry_noMatch k)
  · cases k : isRequestKind f.kind with
    | true => exact .inr (exec_unknownKind_request k)
    | false => exact .inl ⟨_, _, exec_unknownKind_other k, fun _ => rfl⟩

/-! ## A frame that must wait (R179) -/

theorem exec_waiting (h : requestFrame c = some f) (waits : s.canTake f = false) : exec c s = .next s.wake := by
  rcases exec_serves h s with ⟨ok, block, e, -⟩ | e
  · rw [e]
    exact State.carryOut_same (State.serve_waiting (by simpa using waits) _ _)
  · exact e

/-- Settles O3: a row of the executor offers its frame or changes nothing, and an offer not taken changes nothing. -/
theorem waitingFrameChangesNothing : Obligations.WaitingFrameChangesNothing := fun c s f h waits => by
  rw [chosen_eq]
  exact exec_waiting h waits

/-! ## A frame that repeats the remembered one (R180) -/

theorem State.serve_retry (taken : s.canTake f = true) (matched : s.link.isRetry f = true) (ok : Bool)
    (block : State → Answer) : s.serve f ok block = s.takeFrame.repeatReply := by
  simp [State.serve, taken, matched]

/-- A row whose frame is taken and matches is the repeat of the reply, but for UNKNOWN_KIND with a request kind. -/
theorem exec_repeat (h : requestFrame c = some f)
    (kind : ∀ q k p, c = .unknownKind q k p → isRequestKind k = false) (taken : s.canTake f = true)
    (matched : s.link.isRetry f = true) : exec c s = .next s.wake.takeFrame.repeatReply.wake := by
  have offered {ok : Bool} {block : State → Answer} (e : exec c s = s.carryOut (·.serve f ok block)) :
      exec c s = .next s.wake.takeFrame.repeatReply.wake := by
    rw [e, State.carryOut, State.serve_retry (by simpa using taken) (by simpa using matched)]
  rcases requestRow_cases h with ⟨block, row⟩ | rfl | rfl
  · exact offered (row.exec_eq s)
  · exact offered (exec_retry_match matched)
  · exact offered (exec_unknownKind_other (kind _ _ _ rfl))

/-- The remembered reply is queued as a repeat, and the memory stays (R180). -/
theorem State.repeatReply_link {m : RetryMemory} (h : s.link.retry = some m) :
    s.repeatReply.link = { s.link with replies := s.link.replies ++ [repeatFrame m.reply] } := by
  simp [State.repeatReply, h]

/-- Settles O4: the repeat of the reply touches the receive queue and the reply queue alone. -/
theorem retryIsAnsweredByTheRepeat : Obligations.RetryIsAnsweredByTheRepeat := by
  intro c s f m h kind taken remembered seq crc
  have matched : s.link.isRetry f = true := by simp [Link.isRetry, remembered, seq, crc]
  have link := State.repeatReply_link (s := s.wake.takeFrame) (m := m) (by simpa using remembered)
  refine ⟨_, exec_repeat h kind taken matched, ?_, ?_, ?_, ?_, ?_, ?_, ?_⟩
  · simp [link]
  · simp [link, repeatFrame]
  · simpa [link] using remembered
  · simp [SameLine, link]
  · simp [SameReports, ReportsOf, link]
  · exact transmitterServed_of_wake (by rw [link]; rfl) (by rw [link]; rfl) (by rw [link]; rfl)
  · simp [SameButLink, SamePlant]

/-! ## A frame refused before its block sees it (R181, R5, R49, R106, R107) -/

/-- A request row whose payload length is none of its kind's is answered with BAD_LENGTH. -/
theorem onlyAnswers_badLength {block : State → Answer} (h : Executes s f)
    (hc : exec c s = s.carryOut (·.serve f false block)) : OnlyAnswers c s f Status.badLength.bytes := by
  refine ⟨(s.wake.takeFrame.answer f Status.badLength.bytes).wake, ?_, answered_of_same rfl,
    sameReports_of_block rfl, ?_⟩
  · rw [hc, State.carryOut, State.serve_badLength h.wake]
  · simp [SameButLink, SamePlant]

/-- Settles O5: the kind, then the length, then the number that the first payload byte gives. -/
theorem formatAndNumbersAreCheckedFirst : Obligations.FormatAndNumbersAreCheckedFirst := by
  refine ⟨⟨fun s q k p h kind => ?_, fun c s f hc h length => ?_⟩, fun c s f field hc h length number => ?_⟩
  · have other : isRequestKind k = false := by
      simp only [isRequestKind, decide_eq_false_iff_not]
      rcases kind with rfl | above
      · decide
      · omega
    exact onlyAnswers_of_block h (exec_unknownKind_other (f := ⟨q, k, p⟩) other) rfl rfl
  · rcases requestRow_cases hc with ⟨block, row⟩ | rfl | rfl
    · exact onlyAnswers_badLength h (length ▸ row.exec_eq s)
    · cases length
    · cases length
  · rcases requestRow_cases hc with ⟨block, row⟩ | rfl | rfl
    · exact onlyAnswers_of_block h (row.exec_eq s) length (row.refuses field number _)
    · cases number
    · cases number

end Sys2Proof.Machine
end

section
/-!
SUPPORT. What every row is: an effect carried out between two choices of an IDLE transmitter (R183), but for the end of
a frame and the two resets.
-/

namespace Sys2Proof.Machine

/-! ## The awaited reset (R195) -/

section
variable {s t : State}

theorem Quiet.awaitsReset (h : Quiet s t) : t.link.awaitsReset = s.link.awaitsReset := by
  obtain ⟨-, -, -, awaits, -⟩ := h.onlyReports.keeps
  exact awaits

/-- An operation repeated along a list leaves the awaited reset where each of its steps does. -/
theorem foldl_awaitsReset {α : Type} {f : State → α → State}
    (h : ∀ u a, (f u a).link.awaitsReset = u.link.awaitsReset) (l : List α) (s : State) :
    (l.foldl f s).link.awaitsReset = s.link.awaitsReset :=
  List.foldlRecOn (motive := fun u => u.link.awaitsReset = s.link.awaitsReset) l f rfl
    fun u hu a _ => (h u a).trans hu

theorem State.goodFrame_awaitsReset (s : State) (f : WireFrame) :
    (s.goodFrame f).link.awaitsReset = s.link.awaitsReset := by
  unfold State.goodFrame State.joinQueue State.endLost
  repeat' split
  all_goals simp

theorem State.collect_awaitsReset (s : State) (bytes : List Byte) :
    (s.collect bytes).link.awaitsReset = s.link.awaitsReset := by
  unfold State.collect
  repeat' split
  all_goals simp [State.goodFrame_awaitsReset]

theorem State.loseLink_awaitsReset (s : State) : s.loseLink.link.awaitsReset = s.link.awaitsReset := by
  unfold State.loseLink
  split <;> simp

theorem State.beginCycle_awaitsReset (s : State) : s.beginCycle.link.awaitsReset = s.link.awaitsReset := by
  change s.applyDevice.link.awaitsReset = s.link.awaitsReset
  unfold State.applyDevice
  split
  · rw [State.submit_link, Link.submit_awaitsReset, Link.newDevice_eq]
  · rfl

theorem State.startCycle_awaitsReset (s : State) (order : List CycleEvent) :
    (s.startCycle order).link.awaitsReset = s.link.awaitsReset := by
  have event (u : State) (e : CycleEvent) : (u.cycleEvent e).link.awaitsReset = u.link.awaitsReset := by
    cases e with
    | start => exact u.beginCycle_awaitsReset
    | boundary z => exact (Quiet.cycleZone u z).awaitsReset
    | expiry => exact u.loseLink_awaitsReset
    | hold z => exact (u.holdForLink_quiet z).awaitsReset
  have events := foldl_awaitsReset event (s.cycleOrder order) s
  unfold State.startCycle
  rw [State.startTick_link, events]

theorem State.handleReading_awaitsReset (s : State) (i : SensorId) (code : Nat) :
    (s.handleReading i code).link.awaitsReset = s.link.awaitsReset := by
  unfold State.handleReading
  dsimp only
  rw [(Quiet.evaluate _ _).awaitsReset]
  split <;> simp

theorem State.nextConversion_awaitsReset (s : State) (index : Nat) (order : List SensorId) :
    (s.nextConversion index order).link.awaitsReset = s.link.awaitsReset := by
  unfold State.nextConversion
  split
  · rfl
  · obtain ⟨rs, link⟩ := s.takePending_submits order
    obtain ⟨-, -, -, awaits, -⟩ := (s.link.foldl_submit_onlyReports rs).keeps
    rw [State.beginPass_link, link, awaits]

end

/-! ## The events -/

/-- An event's effect leaves the waiting commands and the awaited reset. -/
structure EventRow (c : Instr) (effect : State → State) : Prop where
  exec_eq : ∀ s, exec c s = s.carryOut effect
  pending : ∀ u, (effect u).pending = u.pending
  awaitsReset : ∀ u, (effect u).link.awaitsReset = u.link.awaitsReset

theorem eventRow_goodFrame (q k : Byte) (p : List Byte) :
    EventRow (.goodFrame q k p) fun s => if payloadFits p then s.hunt.goodFrame ⟨q, k, p⟩ else s := by
  refine ⟨fun _ => rfl, fun u => ?_, fun u => ?_⟩
  · split <;> simp
  · split <;> simp [State.goodFrame_awaitsReset]

theorem eventRow_frameCrc : EventRow .frameCrc (·.hunt.countLoss .crc) :=
  ⟨fun _ => rfl, fun _ => by simp, fun _ => by simp⟩

theorem eventRow_frameLength : EventRow .frameLength (·.hunt.countLoss .length) :=
  ⟨fun _ => rfl, fun _ => by simp, fun _ => by simp⟩

theorem eventRow_frameGap : ∃ effect, EventRow .frameGap effect := by
  refine ⟨_, fun s => (rfl : execFrameGap s = s.carryOut _), fun u => ?_, fun u => ?_⟩
  all_goals split <;> simp

theorem eventRow_silenceTimerExpiry (order : List Nat) : ∃ effect, EventRow (.silenceTimerExpiry order) effect := by
  refine ⟨_, fun s => (rfl : execSilenceTimerExpiry order s = s.carryOut _), fun u => ?_, fun u => ?_⟩
  · split
    · rfl
    · rw [foldl_pending _ State.holdForLink_pending, State.loseLink_pending]
  · split
    · rfl
    · rw [foldl_awaitsReset fun v z => (v.holdForLink_quiet z).awaitsReset, State.loseLink_awaitsReset]

theorem eventRow_goBack : ∃ effect, EventRow .goBack effect := by
  refine ⟨_, fun s => (rfl : execGoBack s = s.carryOut _), fun u => ?_, fun u => ?_⟩
  · dsimp only
    split <;> rfl
  · dsimp only
    repeat' split
    all_goals rfl

theorem eventRow_tick : ∃ effect, EventRow .tick effect := by
  refine ⟨_, fun s => (rfl : execTick s = s.carryOut _), fun u => ?_, fun u => ?_⟩
  all_goals split <;> simp

theorem eventRow_cycleStart (order : List CycleEvent) : ∃ effect, EventRow (.cycleStart order) effect := by
  refine ⟨_, fun s => (rfl : execCycleStart order s = s.carryOut _), fun u => ?_, fun u => ?_⟩
  all_goals split <;> simp [State.startCycle_awaitsReset]

theorem eventRow_conversionCompletion (code : BitVec 12) (order : List Nat) :
    ∃ effect, EventRow (.conversionCompletion code order) effect := by
  refine ⟨_, fun s => (rfl : execConversionCompletion code order s = s.carryOut _), fun u => ?_, fun u => ?_⟩
  all_goals
    repeat' split
    all_goals simp [State.nextConversion_awaitsReset, State.handleReading_awaitsReset]

theorem eventRow_stopSample (high : Bool) : ∃ effect, EventRow (.stopSample high) effect := by
  refine ⟨_, fun s => (rfl : execStopSample high s = s.carryOut _), fun u => ?_, fun u => ?_⟩
  · dsimp only
    repeat' split
    · simp [State.assertStop]
    all_goals rfl
  · dsimp only
    repeat' split
    · exact (Quiet.assertStop u).awaitsReset
    · rfl
    · rfl
    · simp [State.releaseStop]
    · rfl
    · rfl

theorem eventRow_receivedByte (b : Byte) : ∃ effect, EventRow (.receivedByte b) effect := by
  refine ⟨_, fun s => (rfl : execReceivedByte b s = s.carryOut _), fun u => ?_, fun u => ?_⟩
  all_goals
    dsimp only
    repeat' split
    all_goals simp [State.collect_awaitsReset]

/-- The rows that take no frame from the receive queue. -/
theorem eventRow_cases {c : Instr} (h : requestFrame c = none) :
    (∃ effect, EventRow c effect) ∨ c = .frameSent ∨ c = .softReset
    ∨ ∃ cause baud1 baud0, c = .hardReset cause baud1 baud0 := by
  cases c with
  | goodFrame q k p => exact .inl ⟨_, eventRow_goodFrame q k p⟩
  | frameCrc => exact .inl ⟨_, eventRow_frameCrc⟩
  | frameLength => exact .inl ⟨_, eventRow_frameLength⟩
  | frameGap => exact .inl eventRow_frameGap
  | silenceTimerExpiry order => exact .inl (eventRow_silenceTimerExpiry order)
  | goBack => exact .inl eventRow_goBack
  | tick => exact .inl eventRow_tick
  | cycleStart order => exact .inl (eventRow_cycleStart order)
  | conversionCompletion code order => exact .inl (eventRow_conversionCompletion code order)
  | stopSample high => exact .inl (eventRow_stopSample high)
  | receivedByte b => exact .inl (eventRow_receivedByte b)
  | frameSent => exact .inr (.inl rfl)
  | softReset => exact .inr (.inr (.inl rfl))
  | hardReset cause baud1 baud0 => exact .inr (.inr (.inr ⟨cause, baud1, baud0, rfl⟩))
  | _ => cases h

/-! ## Every row -/

theorem State.serve_pending {block : State → Answer} (hb : KeepsPending block) (s : State) (f : WireFrame)
    (ok : Bool) : (s.serve f ok block).pending = s.pending := by
  rcases s.serve_cases f ok block with ⟨-, e⟩ | ⟨-, -, e⟩ | ⟨-, -, e⟩ | ⟨-, -, e⟩ <;> rw [e]
  · simp
  · exact hb _
  · simp

/-- A row is an effect that leaves the waiting commands, between two choices of an IDLE transmitter, or the end of a
frame, or a reset. -/
theorem exec_cases (c : Instr) (s : State) :
    (∃ effect, exec c s = s.carryOut effect ∧ (effect s.wake).pending = s.pending)
    ∨ c = .frameSent ∨ c = .softReset ∨ ∃ cause baud1 baud0, c = .hardReset cause baud1 baud0 := by
  cases h : requestFrame c with
  | none =>
    rcases eventRow_cases h with ⟨effect, row⟩ | rest
    · exact .inl ⟨effect, row.exec_eq s, row.pending _⟩
    · exact .inr rest
  | some f =>
    rcases exec_serves h s with ⟨ok, block, e, hb⟩ | e
    · exact .inl ⟨_, e, State.serve_pending hb _ _ _⟩
    · exact .inl ⟨id, by rw [e]; exact (State.carryOut_same rfl).symm, rfl⟩

/-- A row finds the choice of an IDLE transmitter made: carried out on the state as chosen it is the same (R183). -/
theorem exec_wake (c : Instr) (s : State) : exec c s.wake = exec c s := by
  have request {f : WireFrame} (h : requestFrame c = some f) : exec c s.wake = exec c s := by
    rcases requestRow_cases h with ⟨block, row⟩ | rfl | rfl
    · rw [row.exec_eq, row.exec_eq, State.carryOut_wake]
    · exact (State.carryOut_wake s _ : execRetry f.seq f.kind f.payload s.wake = _)
    · exact (State.carryOut_wake s _ : execUnknownKind f.seq f.kind f.payload s.wake = _)
  cases h : requestFrame c with
  | some f => exact request h
  | none =>
    rcases eventRow_cases h with ⟨effect, row⟩ | rfl | rfl | ⟨cause, baud1, baud0, rfl⟩
    · rw [row.exec_eq, row.exec_eq, State.carryOut_wake]
    · simp [exec, execFrameSent]
    · simp [exec, execSoftReset]
    · rfl

/-- Settles O2: every row answers with an effect that leaves the waiting commands; an idle step is the choice. -/
theorem stepAlwaysAnswers : Obligations.StepAlwaysAnswers := by
  refine ⟨fun c s => ?_, fun s idle => ?_⟩
  · rcases exec_cases c s with ⟨effect, e, pending⟩ | rfl | rfl | ⟨cause, baud1, baud0, rfl⟩
    · exact ⟨_, e, pending⟩
    · exact ⟨_, rfl, s.wake.endFrame_pending⟩
    · refine ⟨_, rfl, ?_⟩
      split <;> rfl
    · exact ⟨_, rfl, rfl⟩
  · simp [step, idle, chosen_eq]

end Sys2Proof.Machine
end

section
/-!
The arbiter (R173, R183, R187, R188, R202, R213): the report that the queue offers, the frame chosen, and the levels of
TXD; every row chooses before it and after it.
-/

namespace Sys2Proof.Machine

variable {l : Link} {ack : Bool} {q : Queued}

/-! ## The offered report (R187, R188) -/

/-- With acknowledgement on the oldest DUE report is offered, and where there is none and the window has room the oldest
NEW one; with acknowledgement off the oldest report. -/
theorem Link.eligible_iff : l.eligible ack = some q ↔ Offered l ack q := by
  have oldest (st : AckState) : l.reports.find? (fun x => decide (x.st = st)) = some q
      ↔ ∃ older newer, l.reports = older ++ q :: newer ∧ q.st = st ∧ ∀ x ∈ older, x.st ≠ st := by
    simp only [List.find?_eq_some_iff_append, decide_eq_true_eq, Bool.not_eq_true', decide_eq_false_iff_not]
    exact ⟨fun ⟨hq, older, newer, e, ho⟩ => ⟨older, newer, e, hq, ho⟩,
      fun ⟨older, newer, e, hq, ho⟩ => ⟨hq, older, newer, e, ho⟩⟩
  unfold Link.eligible Offered
  cases ack with
  | false => exact List.head?_eq_some_iff
  | true =>
    have noDue : (∀ x ∈ l.reports, x.st ≠ .due) ↔ l.reports.find? (fun x => decide (x.st = .due)) = none := by
      simp
    simp only [if_true, ← oldest, noDue]
    cases l.reports.find? (fun x => decide (x.st = .due)) with
    | some x => simp
    | none =>
      by_cases room : l.windowCount < Config.windowPlaces
      · simp only [room, if_true, reduceCtorEq, false_or, true_and]
        exact (and_iff_right room).symm
      · simp only [room, if_false, reduceCtorEq, false_or, true_and, false_iff, not_and]
        exact fun k => absurd k room

theorem Link.eligible_eq_none : l.eligible ack = none ↔ ∀ q, ¬Offered l ack q := by
  simp only [← Link.eligible_iff, Option.eq_none_iff_forall_ne_some]

/-! ## The choice (R183) -/

/-- The frame of a report as R213 lays it out. -/
theorem Queued.frame_eq (q : Queued) :
    (⟨q.seq, (reportForm q.report).1, (reportForm q.report).2⟩ : WireFrame) = q.frame := by
  rw [reportForm_eq]
  rfl

section
variable {f : WireFrame}

theorem Link.choose_reply (replies : l.replies.head? = some f) (offered : l.eligible ack = none) :
    l.choose ack = { l with tx := .reply f, txd := lineLevels f, runCount := 0 } := by
  simp only [Link.choose, replies, offered]
  rfl

theorem Link.choose_reply_ahead (replies : l.replies.head? = some f) (offered : l.eligible ack = some q)
    (run : l.runCount < 3) :
    l.choose ack = { l with tx := .reply f, txd := lineLevels f, runCount := l.runCount + 1 } := by
  simp only [Link.choose, replies, offered, run, if_true]
  rfl

theorem Link.choose_report_ahead (replies : l.replies.head? = some f) (offered : l.eligible ack = some q)
    (run : 3 ≤ l.runCount) :
    l.choose ack = { l with tx := .report q.frame false, txd := lineLevels q.frame, runCount := 0 } := by
  simp only [Link.choose, replies, offered, Nat.not_lt.2 run, if_false]
  rfl

theorem Link.choose_report (replies : l.replies.head? = none) (offered : l.eligible ack = some q) :
    l.choose ack = { l with tx := .report q.frame false, txd := lineLevels q.frame, runCount := 0 } := by
  simp only [Link.choose, replies, offered]
  rfl

theorem Link.choose_nothing (replies : l.replies.head? = none) (offered : l.eligible ack = none) :
    l.choose ack = { l with tx := .idle, txd := [] } := by
  simp only [Link.choose, replies, offered]
  rfl

end

/-- A transmitter is left IDLE by its choice only with nothing to send. -/
theorem Link.choose_idle (h : (l.choose ack).tx = .idle) : l.replies = [] ∧ l.eligible ack = none := by
  cases replies : l.replies.head? with
  | none =>
    cases offered : l.eligible ack with
    | none => exact ⟨List.head?_eq_none_iff.1 replies, rfl⟩
    | some q => rw [Link.choose_report replies offered] at h; cases h
  | some f =>
    cases offered : l.eligible ack with
    | none => rw [Link.choose_reply replies offered] at h; cases h
    | some q =>
      rcases Nat.lt_or_ge l.runCount 3 with run | run
      · rw [Link.choose_reply_ahead replies offered run] at h; cases h
      · rw [Link.choose_report_ahead replies offered run] at h; cases h

theorem Link.wake_idle (h : (l.wake ack).tx = .idle) : l.replies = [] ∧ l.eligible ack = none := by
  unfold Link.wake at h
  split at h
  · exact Link.choose_idle h
  · next sending => exact absurd h sending

/-- The choice leaves what is offered. -/
theorem Link.eligible_of_same {l l' : Link} (reports : l'.reports = l.reports) (ack : Bool) :
    l'.eligible ack = l.eligible ack := by
  unfold Link.eligible Link.windowCount
  rw [reports]

@[simp] theorem Link.wake_eligible (l : Link) (a ack : Bool) : (l.wake a).eligible ack = l.eligible ack :=
  Link.eligible_of_same (l.wake_reports a) ack

@[simp] theorem Link.choose_eligible (l : Link) (a ack : Bool) : (l.choose a).eligible ack = l.eligible ack :=
  Link.eligible_of_same (by rw [l.choose_eq]) ack

/-! ## Every row -/

/-- There is nothing to send. -/
def Link.NothingToSend (l : Link) (ack : Bool) : Prop := l.replies = [] ∧ l.eligible ack = none

/-- The end of a frame that is not the reply to RESTART ends with the arbiter's choice. -/
theorem State.endFrame_choose {s : State} (h : ¬SendsRestartReply s) :
    ∃ l : Link, s.endFrame = { s with link := l.choose s.device.live.ack } := by
  rw [← State.sendsRestartReply_iff] at h
  exact ⟨_, if_neg h⟩

/-- A row leaves a transmitter IDLE only with nothing to send, or by a reset, whose transmitter is IDLE (R196). -/
theorem exec_idle {c : Instr} {s t : State} (h : exec c s = .next t) (idle : t.link.tx = .idle) :
    t.link.NothingToSend t.device.live.ack
    ∨ (∃ cause baud1 baud0, c = .hardReset cause baud1 baud0)
    ∨ (SendsRestartReply (chosen s) ∧ (c = .softReset ∨ c = .frameSent)) := by
  have woken {u : State} (idle : u.wake.link.tx = .idle) : u.wake.link.NothingToSend u.wake.device.live.ack := by
    obtain ⟨replies, offered⟩ := Link.wake_idle idle
    exact ⟨by simpa using replies, by simpa using offered⟩
  rcases exec_cases c s with ⟨effect, e, -⟩ | rfl | rfl | reset
  · rw [e] at h
    cases h
    exact .inl (woken idle)
  · by_cases restart : SendsRestartReply (chosen s)
    · exact .inr (.inr ⟨restart, .inr rfl⟩)
    · rw [chosen_eq] at restart
      obtain ⟨l, e⟩ := State.endFrame_choose restart
      obtain rfl : s.wake.endFrame = t := by cases h; rfl
      rw [e] at idle ⊢
      obtain ⟨replies, offered⟩ := Link.choose_idle idle
      refine .inl ⟨?_, by simpa using offered⟩
      rw [l.choose_eq]
      exact replies
  · by_cases restart : SendsRestartReply (chosen s)
    · exact .inr (.inr ⟨restart, .inl rfl⟩)
    · rw [exec_softReset_waiting restart, chosen_eq] at h
      cases h
      exact .inl (woken idle)
  · exact .inr (.inl reset)

/-- Settles O38: the choice by what waits and what is offered; then each row chooses before and after. -/
theorem arbiterChoosesTheNextFrame : Obligations.ArbiterChoosesTheNextFrame := by
  refine ⟨fun l ack => ?_, fun c s => ?_, fun c s t h idle => ?_⟩
  · intro frame
    have layout (q : Queued) : frame q = q.frame := q.frame_eq
    have head {f : WireFrame} {rest : List WireFrame} (h : l.replies = f :: rest) : l.replies.head? = some f := by
      rw [h]; rfl
    have empty (h : l.replies = []) : l.replies.head? = none := by rw [h]; rfl
    simp only [layout]
    exact ⟨fun f rest replies off => Link.choose_reply (head replies) (Link.eligible_eq_none.2 off),
      fun f rest q replies on run => Link.choose_reply_ahead (head replies) (Link.eligible_iff.2 on) run,
      fun f rest q replies on run => Link.choose_report_ahead (head replies) (Link.eligible_iff.2 on) run,
      fun q replies on => Link.choose_report (empty replies) (Link.eligible_iff.2 on),
      fun replies off => Link.choose_nothing (empty replies) (Link.eligible_eq_none.2 off)⟩
  · rw [chosen_eq, exec_wake]
  · rw [← Link.eligible_eq_none]
    exact exec_idle h idle

end Sys2Proof.Machine
end

section
/-!
RESTART (R195) and ACK_REPORTS (R183, R189, R190).
-/

namespace Sys2Proof.Machine

variable {s : State} {l : Link} {n : Byte}

/-! ## RESTART and the awaited reset (R195) -/

theorem State.canTake_awaiting (h : s.link.awaitsReset = true) (f : WireFrame) : s.canTake f = false := by
  simp [State.canTake, h]

/-- The end of a frame that is not the reply to RESTART leaves the awaited reset. -/
theorem State.endFrame_awaitsReset (h : ¬SendsRestartReply s) :
    s.endFrame.link.awaitsReset = s.link.awaitsReset := by
  rw [← State.sendsRestartReply_iff] at h
  unfold State.endFrame
  rw [if_neg h]
  dsimp only
  rw [Link.choose_eq]
  split
  · rfl
  · rfl
  · rw [Link.reportSent_eq]

/-- A part that awaits its reset goes on to await it, but for the two resets. -/
theorem exec_awaiting {c : Instr} {t : State} (awaits : s.link.awaitsReset = true) (h : exec c s = .next t) :
    t.link.awaitsReset = true
    ∨ (∃ cause baud1 baud0, c = .hardReset cause baud1 baud0)
    ∨ (SendsRestartReply (chosen s) ∧ (c = .softReset ∨ c = .frameSent)) := by
  have woken : s.wake.link.awaitsReset = true := by simpa using awaits
  cases row : requestFrame c with
  | some f =>
    rw [exec_waiting row (State.canTake_awaiting awaits f)] at h
    cases h
    exact .inl woken
  | none =>
    rcases eventRow_cases row with ⟨effect, event⟩ | rfl | rfl | reset
    · rw [event.exec_eq] at h
      cases h
      left
      simpa [event.awaitsReset] using awaits
    · by_cases restart : SendsRestartReply (chosen s)
      · exact .inr (.inr ⟨restart, .inr rfl⟩)
      · rw [chosen_eq] at restart
        cases h
        exact .inl ((State.endFrame_awaitsReset restart).trans woken)
    · by_cases restart : SendsRestartReply (chosen s)
      · exact .inr (.inr ⟨restart, .inl rfl⟩)
      · rw [exec_softReset_waiting restart, chosen_eq] at h
        cases h
        exact .inl woken
    · exact .inr (.inl reset)

/-- Settles O7: RESTART only answers and sets the awaited reset, which shuts the executor; row by row it stays set. -/
theorem restartAwaitsItsReset : Obligations.RestartAwaitsItsReset := by
  refine ⟨fun s q h => ?_, fun s f h => State.canTake_awaiting h f, fun s t c h e => exec_awaiting h e⟩
  refine ⟨_, exec_of_block (block := blockRestart) h rfl rfl, ?_, ?_, ?_, ?_, ?_, ?_, ?_,
    transmitterServed_of_wake rfl rfl rfl, ?_, ?_⟩
  · simp [Replied, blockRestart, Status.bytes]
  all_goals simp [blockRestart, SameReports, ReportsOf, SameButLink, SamePlant]

/-! ## ACK_REPORTS (R189) -/

/-- The first element that passes a test stands after those that fail it. -/
theorem findIdx?_at {α : Type} {p : α → Bool} {a c : List α} {b : α} (hp : p b = true)
    (before : ∀ x ∈ a, p x = false) : (a ++ b :: c).findIdx? p = some a.length := by
  rw [List.findIdx?_append, List.findIdx?_eq_none_iff.2 before, List.findIdx?_cons, if_pos hp]
  simp

/-- The acknowledged report and every older one leave, and the resend timer restarts or stops (R189, R190). -/
theorem Link.ack_named {d : DeviceRec} {older newer : List Queued} {r : Queued} (on : d.ack = true)
    (e : l.reports = older ++ r :: newer) (named : r.seq = n ∧ r.st ≠ .fresh)
    (first : ∀ x ∈ older, ¬(x.seq = n ∧ x.st ≠ .fresh)) :
    l.ack d n = { l with
      reports := newer
      resend := if 0 < newer.countP (fun q => decide (q.st ≠ .fresh)) then some d.resend else none } := by
  have found : l.reports.any (fun x => decide (x.seq = n ∧ x.st ≠ .fresh)) = true := by
    rw [List.any_eq_true]
    exact ⟨r, by rw [e]; simp, by simpa using named⟩
  have dropped : dropAcked n l.reports = newer := by
    have index : l.reports.findIdx? (fun x => decide (x.seq = n ∧ x.st ≠ .fresh)) = some older.length := by
      rw [e]
      exact findIdx?_at (by simpa using named) fun x hx => by simpa using first x hx
    unfold dropAcked
    rw [index]
    simp [e]
  unfold Link.ack
  rw [if_pos ⟨on, found⟩, dropped]
  rfl

/-- Any other number changes nothing (R189). -/
theorem Link.ack_unnamed {d : DeviceRec}
    (h : d.ack = false ∨ ∀ x ∈ l.reports, ¬(x.seq = n ∧ x.st ≠ .fresh)) : l.ack d n = l := by
  unfold Link.ack
  rw [if_neg]
  rintro ⟨on, found⟩
  obtain ⟨x, hx, named⟩ := List.any_eq_true.1 found
  rcases h with off | unnamed
  · rw [on] at off
    cases off
  · exact unnamed x hx (by simpa using named)

/-- An acknowledgement touches the report queue and the resend timer alone (R189). -/
theorem Link.ack_keeps (l : Link) (d : DeviceRec) (n : Byte) :
    (l.ack d n).rate = l.rate ∧ (l.ack d n).receiver = l.receiver ∧ (l.ack d n).rxQueue = l.rxQueue
    ∧ (l.ack d n).awaitsReset = l.awaitsReset ∧ (l.ack d n).replies = l.replies ∧ (l.ack d n).tx = l.tx
    ∧ (l.ack d n).txd = l.txd ∧ (l.ack d n).runCount = l.runCount ∧ (l.ack d n).nextSeq = l.nextSeq
    ∧ (l.ack d n).lost = l.lost ∧ (l.ack d n).connected = l.connected ∧ (l.ack d n).silence = l.silence := by
  rw [l.ack_eq]
  simp

/-- The reply to ACK_REPORTS from a link: the oldest report SENT or DUE, and the window count (R189). -/
def Link.ackReply (l : Link) : List Byte :=
  match l.reports.find? (fun r => decide (r.st ≠ .fresh)) with
  | some r => [0x00, 1, r.seq, byte l.windowCount]
  | none => [0x00, 0, 0, byte l.windowCount]

theorem Link.ackReply_congr {l l' : Link} (reports : l'.reports = l.reports) : l'.ackReply = l.ackReply := by
  unfold Link.ackReply Link.windowCount
  rw [reports]

theorem blockAckReports_eq (n : Byte) (u : State) :
    blockAckReports [n] u =
      ((u.link.ack u.device.live n).ackReply, { u with link := u.link.ack u.device.live n }) := by
  unfold blockAckReports Link.oldestUnacked Link.ackReply
  dsimp only [at8_cons_zero]
  split
  all_goals
    next found =>
      rw [found]
      rfl

/-- Settles O9: the acknowledgement changes the report queue and the resend timer alone, and the reply is read from what
it leaves. -/
theorem ackReportsRemovesTheAcknowledged : Obligations.AckReportsRemovesTheAcknowledged := by
  intro s q n h
  obtain ⟨k, hk⟩ : ∃ k, s.wake.takeFrame.link.ack s.device.live n = k := ⟨_, rfl⟩
  have exec_eq := exec_of_block (c := .ackReports q [n]) (block := blockAckReports [n]) h rfl rfl
  rw [blockAckReports_eq, show s.wake.takeFrame.link.ack s.wake.takeFrame.device.live n = k from hk] at exec_eq
  obtain ⟨rate, receiver, rxQueue, awaits, replies, tx, txd, runCount, nextSeq, lost, connected, silence⟩ :=
    s.wake.takeFrame.link.ack_keeps s.device.live n
  rw [hk] at rate receiver rxQueue awaits replies tx txd runCount nextSeq lost connected silence
  have reports : s.wake.takeFrame.link.reports = s.link.reports := by simp
  refine ⟨_, exec_eq, (?_ : Replied _ _ _ (Link.ackReply _)),
    fun older r newer on e named waits first => ?_, fun unnamed => ?_, ?_⟩
  · rw [Link.ackReply_congr (l := k) (l' := (State.answer _ _ _).wake.link) (by simp)]
    simp [Replied, rxQueue, replies]
  · have acked := hk.symm.trans
      (Link.ack_named (d := s.device.live) (n := n) on (reports.trans e) ⟨named, waits⟩ first)
    simp [acked, Link.windowCount]
  · have same := hk.symm.trans (Link.ack_unnamed (d := s.device.live) (n := n) (reports ▸ unnamed))
    simp [same]
  · refine ⟨?_, ?_, ?_, ?_, ?_, ?_, ?_, transmitterServed_of_wake tx runCount txd, ?_⟩
    all_goals simp [rate, receiver, awaits, nextSeq, lost, connected, silence, SameButLink, SamePlant]

end Sys2Proof.Machine
end

section
/-!
The report queue and the frames lost (R176, R178, R184 to R186).
-/

namespace Sys2Proof.Machine

/-! ## Admission by class (R184 to R186) -/

/-- The places open to a report's class (R184). -/
theorem Report.places_eq (r : Report) : r.places = if r.priority then 32 else 28 := rfl

section
variable {l : Link} {r : Report}

theorem Link.submit_admitted (none : l.lost = 0) (room : l.reports.length < r.places) : l.submit r = l.enqueue r := by
  simp [Link.submit, none, room]

theorem Link.submit_full (none : l.lost = 0) (full : r.places ≤ l.reports.length) : l.submit r = l.lose := by
  simp [Link.submit, none, Nat.not_lt.2 full]

/-- After a loss a LOST report goes ahead where both find a place (R185). -/
theorem Link.submit_both (some : 0 < l.lost) (room : l.reports.length < 32) (next : l.reports.length + 1 < r.places) :
    l.submit r = ({ l.enqueue (.lost l.lost) with lost := 0 } : Link).enqueue r := by
  simp [Link.submit, Nat.ne_of_gt some, Config.reportPlaces, room, next]

/-- After a loss, where the two find no place, a priority report takes the last one alone (R185). -/
theorem Link.submit_alone (some : 0 < l.lost) (tight : ¬(l.reports.length < 32 ∧ l.reports.length + 1 < r.places)) :
    l.submit r = if r.priority = true ∧ l.reports.length < 32 then l.enqueue r else l.lose := by
  unfold Link.submit
  rw [if_neg (Nat.ne_of_gt some)]
  exact if_neg tight

end

theorem Link.lose_eq (l : Link) : l.lose = { l with lost := min 65535 (l.lost + 1) } := by
  rw [Link.lose, bump_eq_min]

/-- Settles O37, by whether reports were lost before and what places are left. -/
theorem reportsAreAdmittedByClass : Obligations.ReportsAreAdmittedByClass := by
  intro l r n places admitted lost
  have lose : l.lose = lost := l.lose_eq
  refine ⟨Link.submit_admitted, fun none full => lose ▸ Link.submit_full none full, fun some room next => ?_,
    fun some tight priority room => ?_, fun some tight ordinary => ?_, fun some priority full => ?_⟩
  · rw [Link.submit_both some room next]
    simp [Link.enqueue]
  · exact (Link.submit_alone some tight).trans (if_pos ⟨priority, room⟩)
  · rw [← lose]
    exact (Link.submit_alone some tight).trans (if_neg (by simp [ordinary]))
  · rw [← lose]
    exact (Link.submit_alone some (by omega)).trans (if_neg (by omega))

/-! ## The LINK_ERROR report (R178) -/

section
variable (l : Link) (q : Queued) (cause : LossCause)

theorem Link.isSending_iff (seq : Byte) : l.isSending seq = true ↔ ∃ f w, l.tx = .report f w ∧ f.seq = seq := by
  unfold Link.isSending
  cases l.tx <;> simp

theorem Link.isUnsentError_iff : l.isUnsentError q = true ↔ UnsentError l q := by
  have sending : l.isSending q.seq = false ↔ ∀ f w, l.tx = .report f w → f.seq ≠ q.seq := by
    rw [← Bool.not_eq_true, l.isSending_iff]
    push Not
    rfl
  unfold Link.isUnsentError UnsentError
  rw [← sending]
  cases q.report <;> simp

theorem LossCounts.add_eq (n : LossCounts) : n.add cause = countedOnce n cause := by
  cases cause <;> simp [LossCounts.add, countedOnce, bump_eq_min]

variable {l q}

/-- The first unsent LINK_ERROR report counts the loss where it stands (R178). -/
theorem Link.countLoss_first {older newer : List Queued} {n : LossCounts} (e : l.reports = older ++ q :: newer)
    (first : ∀ x ∈ older, ¬UnsentError l x) (unsent : UnsentError l q) (counts : q.report = .linkError n) :
    l.countLoss cause
      = { l with reports := older ++ { q with report := .linkError (countedOnce n cause) } :: newer } := by
  have index : l.reports.findIdx? l.isUnsentError = some older.length := by
    rw [e]
    refine findIdx?_at ((l.isUnsentError_iff q).2 unsent) fun x hx => ?_
    rw [← Bool.not_eq_true, l.isUnsentError_iff]
    exact first x hx
  have counted : q.addLoss cause = { q with report := .linkError (countedOnce n cause) } := by
    simp [Queued.addLoss, counts, LossCounts.add_eq]
  unfold Link.countLoss
  rw [index]
  dsimp only
  rw [e, List.modify_eq_take_cons_drop (by simp)]
  simp [counted]

/-- With no unsent LINK_ERROR report a new one is submitted (R178). -/
theorem Link.countLoss_none (none : ∀ q ∈ l.reports, ¬UnsentError l q) :
    l.countLoss cause = l.submit (.linkError (countedOnce ⟨0, 0, 0, 0⟩ cause)) := by
  have index : l.reports.findIdx? l.isUnsentError = Option.none := by
    refine List.findIdx?_eq_none_iff.2 fun x hx => ?_
    rw [← Bool.not_eq_true, l.isUnsentError_iff]
    exact none x hx
  unfold Link.countLoss
  rw [index]
  dsimp only
  rw [LossCounts.add_eq]

end

/-! ## A frame lost (R176) -/

section
variable {c : Instr} {s : State} {cause : LossCause}

/-- A command whose effect is to hunt and to count a loss. -/
theorem losesFrame_of_effect {effect : State → State} (h : exec c s = s.carryOut effect)
    (he : effect s.wake = s.wake.hunt.countLoss cause) : LosesFrame c s cause := by
  have same : s.wake.link.ReportsEq s.wake.hunt.link := ⟨rfl, rfl, rfl⟩
  have counted := same.countLoss rfl cause
  rw [State.carryOut, he] at h
  refine ⟨_, h, ?_, ?_, ?_, ?_, ?_, ?_, ?_, ?_, transmitterServed_of_wake ?_ ?_ ?_, ?_⟩
  · simp
  · rw [chosen_eq]
    simpa [ReportsOf, Link.ReportsEq] using counted
  all_goals simp [SameQueues, SameButLink, SamePlant]

/-- The frame being collected is abandoned (R176). -/
theorem exec_frameGap_collecting {bytes : List Byte} (h : s.link.receiver = .collecting bytes) :
    exec .frameGap s = s.carryOut (·.hunt.countLoss .gap) := by
  simp [exec, execFrameGap, State.carryOut, h]

theorem exec_frameGap_hunting (h : s.link.receiver = .hunting) : exec .frameGap s = .next s.wake := by
  simp [exec, execFrameGap, State.carryOut, h]

end

/-- Settles O36: each of the three events hunts and counts one loss, in the first unsent LINK_ERROR report or a new
one. -/
theorem lostFramesRaiseTheLinkError : Obligations.LostFramesRaiseTheLinkError := by
  refine ⟨fun s => ⟨?_, ?_, fun bytes collecting => ?_, fun hunting => ?_⟩, fun l cause => ⟨?_, ?_⟩⟩
  · exact losesFrame_of_effect (eventRow_frameCrc.exec_eq s) rfl
  · exact losesFrame_of_effect (eventRow_frameLength.exec_eq s) rfl
  · exact losesFrame_of_effect (exec_frameGap_collecting collecting) rfl
  · rw [exec_frameGap_hunting hunting, chosen_eq]
  · exact fun _ _ _ _ e first unsent counts => Link.countLoss_first cause e first unsent counts
  · exact Link.countLoss_none cause

end Sys2Proof.Machine
end

section
/-!
A good frame (R177, R192, R193): the silence timer, the LOST state and the receive queue.
-/

namespace Sys2Proof.Machine

/-- What a good frame leaves of the link before it joins the receive queue: the silence timer restarts, LOST ends, and
the rest is as it was but for the reports (R192, R193). -/
structure Restored (timeout : Nat) (l l' : Link) : Prop where
  reports : (if l.connected then l else l.submit .linkRestored).ReportsEq l'
  connected : l'.connected = true
  silence : l'.silence = silenceFrom timeout
  receiver : l'.receiver = l.receiver
  rxQueue : l'.rxQueue = l.rxQueue
  rate : l'.rate = l.rate
  replies : l'.replies = l.replies
  retry : l'.retry = l.retry
  awaitsReset : l'.awaitsReset = l.awaitsReset
  resend : l'.resend = l.resend
  tx : l'.tx = l.tx
  txd : l'.txd = l.txd
  runCount : l'.runCount = l.runCount

section
variable (s : State) (f : WireFrame)

theorem State.endLost_restored : Restored s.device.live.timeout s.link s.restartSilence.endLost.link := by
  cases connected : s.link.connected with
  | true =>
    have same : s.restartSilence.endLost = s.restartSilence := if_pos connected
    rw [same]
    constructor
    case connected => exact connected
    case reports => simp [connected, Link.ReportsEq]
    all_goals rfl
  | false =>
    have lost : s.restartSilence.endLost
        = State.submit { s.restartSilence with link := { s.restartSilence.link with connected := true } }
          .linkRestored := if_neg (by simp [connected])
    have same : s.link.ReportsEq { s.restartSilence.link with connected := true } := ⟨rfl, rfl, rfl⟩
    rw [lost]
    constructor
    case reports => simpa [connected] using same.submit .linkRestored
    all_goals simp

variable {s}

theorem State.joinQueue_room (room : s.link.rxQueue.length < 4) :
    s.joinQueue f = { s with link := { s.link with rxQueue := s.link.rxQueue ++ [f] } } := if_pos room

theorem State.joinQueue_full (full : 4 ≤ s.link.rxQueue.length) : s.joinQueue f = s.countLoss .overrun :=
  if_neg (Nat.not_lt.2 full)

variable (s)

@[simp] theorem State.joinQueue_receiver : (s.joinQueue f).link.receiver = s.link.receiver := by
  unfold State.joinQueue; split <;> simp
@[simp] theorem State.joinQueue_connected : (s.joinQueue f).link.connected = s.link.connected := by
  unfold State.joinQueue; split <;> simp
@[simp] theorem State.joinQueue_silence : (s.joinQueue f).link.silence = s.link.silence := by
  unfold State.joinQueue; split <;> simp
@[simp] theorem State.joinQueue_rate : (s.joinQueue f).link.rate = s.link.rate := by
  unfold State.joinQueue; split <;> simp
@[simp] theorem State.joinQueue_replies : (s.joinQueue f).link.replies = s.link.replies := by
  unfold State.joinQueue; split <;> simp
@[simp] theorem State.joinQueue_retry : (s.joinQueue f).link.retry = s.link.retry := by
  unfold State.joinQueue; split <;> simp
@[simp] theorem State.joinQueue_awaitsReset : (s.joinQueue f).link.awaitsReset = s.link.awaitsReset := by
  unfold State.joinQueue; split <;> simp
@[simp] theorem State.joinQueue_resend : (s.joinQueue f).link.resend = s.link.resend := by
  unfold State.joinQueue; split <;> simp
@[simp] theorem State.joinQueue_tx : (s.joinQueue f).link.tx = s.link.tx := by
  unfold State.joinQueue; split <;> simp
@[simp] theorem State.joinQueue_txd : (s.joinQueue f).link.txd = s.link.txd := by
  unfold State.joinQueue; split <;> simp
@[simp] theorem State.joinQueue_runCount : (s.joinQueue f).link.runCount = s.link.runCount := by
  unfold State.joinQueue; split <;> simp

end

theorem Link.ReportsEq.trans {a b c : Link} (h : a.ReportsEq b) (k : b.ReportsEq c) : a.ReportsEq c :=
  ⟨k.1.trans h.1, k.2.1.trans h.2.1, k.2.2.trans h.2.2⟩

theorem reportsOf_wake {l : Link} {u : State} (h : l.ReportsEq u.link) : ReportsOf l u.wake := by
  simpa [ReportsOf, Link.ReportsEq] using h

theorem payloadFits_iff {p : List Byte} : payloadFits p = true ↔ p.length ≤ 120 := decide_eq_true_iff

theorem exec_goodFrame_long {s : State} {q k : Byte} {p : List Byte} (long : 120 < p.length) :
    exec (.goodFrame q k p) s = .next s.wake := by
  have outside : ¬payloadFits p = true := mt payloadFits_iff.1 (by omega)
  exact State.carryOut_same (effect := fun s => if payloadFits p then _ else s) (if_neg outside)

theorem exec_goodFrame_fits {s : State} {q k : Byte} {p : List Byte} (fits : p.length ≤ 120) :
    exec (.goodFrame q k p) s = .next (s.wake.hunt.goodFrame ⟨q, k, p⟩).wake := by
  rw [(eventRow_goodFrame q k p).exec_eq, State.carryOut, if_pos (payloadFits_iff.2 fits)]

/-- Settles O35: the link is restored, and the frame joins the receive queue or is counted. -/
theorem goodFrameJoinsTheQueue : Obligations.GoodFrameJoinsTheQueue := by
  refine ⟨fun s q k p long => by rw [chosen_eq, exec_goodFrame_long long], fun s q k p fits => ?_⟩
  intro l
  have blocks : SameButLink s (s.wake.hunt.goodFrame ⟨q, k, p⟩).wake := by
    simp [SameButLink, SamePlant, State.goodFrame]
  refine ⟨_, exec_goodFrame_fits fits, ?_⟩
  unfold State.goodFrame at blocks ⊢
  have restored := s.wake.hunt.endLost_restored
  have reported : l.ReportsEq s.wake.hunt.restartSilence.endLost.link := by
    have same : s.wake.link.ReportsEq s.wake.hunt.link := ⟨rfl, rfl, rfl⟩
    refine Link.ReportsEq.trans ?_ restored.reports
    rw [show s.wake.hunt.link.connected = s.link.connected from s.link.wake_connected _]
    simp only [l, chosen_eq]
    split
    · exact same
    · exact same.submit _
  have tx : s.wake.hunt.restartSilence.endLost.link.tx = l.tx := by
    rw [restored.tx]
    simp only [l, chosen_eq]
    split <;> simp
  generalize s.wake.hunt.restartSilence.endLost = v at blocks restored reported tx ⊢
  have queue : v.link.rxQueue = s.link.rxQueue := by simpa using restored.rxQueue
  have served := transmitterServed_of_wake (s := s) (u := v.joinQueue ⟨q, k, p⟩)
    (by simpa using restored.tx) (by simpa using restored.runCount) (by simpa using restored.txd)
  refine ⟨?_, ?_, ?_, fun room => ?_, fun full => ?_, ?_, ?_, ?_, ?_, ?_, served, blocks⟩
  · simpa using restored.receiver
  · simpa using restored.connected
  · rw [State.wake_link, Link.wake_silence, State.joinQueue_silence]
    exact restored.silence
  · rw [State.joinQueue_room _ (by rwa [queue])]
    exact ⟨by simp [queue], reportsOf_wake reported⟩
  · rw [State.joinQueue_full _ (by rwa [queue])]
    exact ⟨by simp [queue], reportsOf_wake (reported.countLoss tx _)⟩
  · simpa using restored.rate
  · simpa using restored.replies
  · simpa using restored.retry
  · simpa using restored.awaitsReset
  · simpa using restored.resend

end Sys2Proof.Machine
end

section
/-!
The bytes of a frame (R173 to R176): the receiver collects them one by one, and the last one completes the frame.
-/

namespace Sys2Proof.Machine

/-! ## The bytes of a frame, read back (R174) -/

section
variable (f : WireFrame) (hi lo : Byte)

theorem WireFrame.body_length : f.body.length = f.payload.length + 3 := rfl

variable {f}

section
variable (fits : f.payload.length ≤ 120)
include fits

/-- LENGTH gives the payload's length. -/
theorem WireFrame.nat8_body (rest : List Byte) : nat8 (f.body ++ rest) 0 = f.payload.length := by
  change (byte f.payload.length).toNat = f.payload.length
  rw [byte_toNat]
  omega

theorem frameOf_body : frameOf (f.body ++ [hi, lo]) = f := by
  have payload : ((f.body ++ [hi, lo]).drop 3).take f.payload.length = f.payload := by
    rw [show (f.body ++ [hi, lo]).drop 3 = f.payload ++ [hi, lo] from rfl, List.take_left']
    rfl
  unfold frameOf
  rw [f.nat8_body fits, payload]
  rfl

theorem carriedCrc_body : carriedCrc (f.body ++ [hi, lo]) = hi ++ lo := by
  have at_end (k : Nat) : at8 (f.body ++ [hi, lo]) (f.payload.length + 3 + k) = at8 [hi, lo] k := by
    unfold at8
    rw [← f.body_length, List.getD_append_right _ _ _ _ (Nat.le_add_right _ _), Nat.add_sub_cancel_left]
  unfold carriedCrc
  rw [f.nat8_body fits]
  exact congrArg₂ (· ++ ·) (at_end 0) (at_end 1)

end
end

/-! ## A byte received -/

section
variable {s : State} {b : Byte}

/-- The part with the receiver collecting these bytes, an IDLE transmitter having chosen. -/
def State.collecting (s : State) (bytes : List Byte) : State :=
  { s.wake with link := { s.wake.link with receiver := .collecting bytes } }

/-- The receiver has no part in the choice of an IDLE transmitter. -/
theorem Link.wake_receiver_comm (l : Link) (r : Receiver) (a : Bool) :
    ({ l with receiver := r } : Link).wake a = { l.wake a with receiver := r } := by
  unfold Link.wake Link.choose Link.transmit
  dsimp only
  rw [Link.eligible_of_same (l := l) (l' := { l with receiver := r }) rfl]
  repeat' split
  all_goals rfl

theorem State.wake_collecting (s : State) (bytes : List Byte) : (s.collecting bytes).wake = s.collecting bytes := by
  have again := Link.wake_receiver_comm s.wake.link (.collecting bytes) s.device.live.ack
  rw [State.wake_link, Link.wake_wake] at again
  exact congrArg (fun l : Link => ({ s with link := l } : State)) again

/-- Hunting forgets what was collected. -/
theorem State.hunt_collecting (s : State) (bytes : List Byte) : (s.collecting bytes).wake.hunt = s.wake.hunt := by
  rw [State.wake_collecting]
  rfl

theorem exec_receivedByte_discarded (h : s.link.receiver = .hunting) (other : b ≠ 0xC3#8) :
    exec (.receivedByte b) s = .next s.wake := by
  simp [exec, execReceivedByte, State.carryOut, h, other]

/-- SYNC begins a frame (R175). -/
theorem exec_receivedByte_sync (h : s.link.receiver = .hunting) :
    exec (.receivedByte 0xC3#8) s = .next (s.collecting []) := by
  have hunting : s.wake.link.receiver = .hunting := by simpa using h
  simp only [exec, execReceivedByte, State.carryOut, hunting, if_true]
  exact congrArg _ (s.wake_collecting [])

/-- A byte received while COLLECTING is judged with those before it (R175). -/
theorem exec_receivedByte_collecting {bytes : List Byte} (h : s.link.receiver = .collecting bytes) :
    exec (.receivedByte b) s = s.carryOut (·.collect (bytes ++ [b])) := by
  simp [exec, execReceivedByte, State.carryOut, h]

theorem not_long {n : Nat} (fits : n ≤ 120) : ¬Config.maxPayload < n := Nat.not_lt.2 fits

/-- A LENGTH above 120 abandons the frame as it arrives (R176). -/
theorem State.collect_long {bytes : List Byte} (long : 120 < nat8 bytes 0) :
    s.collect bytes = s.hunt.countLoss .length :=
  if_pos long

section
variable {f : WireFrame} {hi lo : Byte} {before after : List Byte}

/-- A byte that does not complete the frame is collected. -/
theorem State.collect_within (fits : f.payload.length ≤ 120) (e : f.body ++ [hi, lo] = before ++ b :: after)
    (more : after ≠ []) :
    s.collect (before ++ [b]) = { s with link := { s.link with receiver := .collecting (before ++ [b]) } } := by
  have length : nat8 (before ++ [b]) 0 = f.payload.length := by
    rw [← f.nat8_body fits [hi, lo], e]
    cases before <;> rfl
  have count := congrArg List.length e
  have rest := List.length_pos_iff.2 more
  simp only [List.length_append, List.length_cons, List.length_nil, f.body_length] at count
  unfold State.collect
  rw [length, if_neg (not_long fits), if_neg]
  simp [isComplete, length]
  omega

variable (fits : f.payload.length ≤ 120)
include fits

theorem State.collect_good (crc : hi ++ lo = f.crc) : s.collect (f.body ++ [hi, lo]) = s.hunt.goodFrame f := by
  unfold State.collect isComplete
  rw [f.nat8_body fits, carriedCrc_body hi lo fits, frameOf_body hi lo fits, if_neg (not_long fits), if_pos, if_pos crc]
  simp [f.body_length]

theorem State.collect_bad (crc : hi ++ lo ≠ f.crc) : s.collect (f.body ++ [hi, lo]) = s.hunt.countLoss .crc := by
  unfold State.collect isComplete
  rw [f.nat8_body fits, carriedCrc_body hi lo fits, frameOf_body hi lo fits, if_neg (not_long fits), if_pos, if_neg crc]
  simp [f.body_length]

end
end

/-- Settles O33: what the receiver makes of a byte, by what it has collected. -/
theorem bytesAreCollectedIntoFrames : Obligations.BytesAreCollectedIntoFrames := by
  refine ⟨fun s b h other => ?_, fun s h => ?_, fun s b h long => ?_, fun s f hi lo b before after fits e h => ?_⟩
  · rw [chosen_eq, exec_receivedByte_discarded h other]
  · rw [chosen_eq, exec_receivedByte_sync h]
    rfl
  · rw [exec_receivedByte_collecting h, eventRow_frameLength.exec_eq]
    exact State.carryOut_congr (State.collect_long long)
  · rw [exec_receivedByte_collecting h]
    refine ⟨fun more => ?_, fun last crc => ?_, fun last crc => ?_⟩
    · rw [State.carryOut, State.collect_within fits e more, chosen_eq]
      exact congrArg _ (s.wake_collecting _)
    · subst last
      rw [← e, (eventRow_goodFrame _ _ _).exec_eq]
      exact State.carryOut_congr ((State.collect_good fits crc).trans (if_pos (payloadFits_iff.2 fits)).symm)
    · subst last
      rw [← e, eventRow_frameCrc.exec_eq]
      exact State.carryOut_congr (State.collect_bad fits crc)

/-! ## The bytes of a frame in turn (R174, R175) -/

/-- The rest of a frame's bytes, received while its first bytes are collected. -/
theorem feed_collecting {s : State} {f : WireFrame} {hi lo : Byte} (fits : f.payload.length ≤ 120)
    (crc : hi ++ lo = f.crc) (before : List Byte) (b : Byte) (after : List Byte)
    (e : f.body ++ [hi, lo] = before ++ b :: after) :
    feed (b :: after) (s.collecting before) = .next (s.wake.hunt.goodFrame f).wake := by
  have received : exec (.receivedByte b) (s.collecting before)
      = (s.collecting before).carryOut (·.collect (before ++ [b])) := exec_receivedByte_collecting rfl
  induction after generalizing before b with
  | nil =>
    rw [← e, State.carryOut, State.collect_good fits crc, State.hunt_collecting] at received
    simp [feed, received]
  | cons c after ih =>
    rw [State.carryOut, State.collect_within fits e (by simp), State.wake_collecting] at received
    have collected : exec (.receivedByte b) (s.collecting before) = .next (s.collecting (before ++ [b])) :=
      received.trans (congrArg _ (s.wake_collecting (before ++ [b])))
    rw [feed, collected]
    exact ih (before ++ [b]) c (by rw [e, List.append_assoc]; rfl) (exec_receivedByte_collecting rfl)

/-- The CRC is sent high byte first (R174). -/
theorem be16_crc (w : BitVec 16) : ∃ hi lo : Byte, be16 w.toNat = [hi, lo] ∧ hi ++ lo = w := by
  refine ⟨_, _, rfl, BitVec.eq_of_toNat_eq ?_⟩
  rw [append_toNat, byte_toNat, byte_toNat]
  omega

/-- Settles O34: SYNC, then the bytes of the frame by induction, the last of which completes it. -/
theorem frameBytesAreAGoodFrame : Obligations.FrameBytesAreAGoodFrame := by
  intro s f hunting fits
  obtain ⟨hi, lo, bytes, crc⟩ := be16_crc f.crc
  have sync : feed f.bytes s = feed (f.body ++ [hi, lo]) (s.collecting []) := by
    rw [WireFrame.bytes, bytes, feed, show exec (.receivedByte 0xC3) s = _ from exec_receivedByte_sync hunting]
  rw [sync, exec_goodFrame_fits fits]
  exact feed_collecting fits crc [] _ _ rfl

end Sys2Proof.Machine
end

section
/-!
The end of a frame and the go-back (R182, R183, R187, R188, R190).
-/

namespace Sys2Proof.Machine

variable {s : State}

/-! ## The end of a frame (R182, R187, R188) -/

/-- The link as a frame's last byte leaves TXD, by what was in transmission (R182, R187, R188). -/
def Link.frameSent (l : Link) (d : DeviceRec) : Link :=
  match l.tx with
  | .idle => l
  | .reply _ => { l with replies := l.replies.tail }
  | .report f wentBack => l.reportSent d f.seq wentBack

/-- The end of a frame that is not the reply to RESTART. -/
theorem State.endFrame_eq (h : ¬SendsRestartReply s) :
    s.endFrame = { s with link := (s.link.frameSent s.device.live).choose s.device.live.ack } := by
  rw [← State.sendsRestartReply_iff] at h
  exact if_neg h

section
variable {l : Link} {d : DeviceRec} {f : WireFrame} {w : Bool}

theorem Link.frameSent_idle (h : l.tx = .idle) : l.frameSent d = l := by
  simp [Link.frameSent, h]

theorem Link.frameSent_reply (h : l.tx = .reply f) : l.frameSent d = { l with replies := l.replies.tail } := by
  simp [Link.frameSent, h]

theorem Link.frameSent_report (h : l.tx = .report f w) : l.frameSent d = l.reportSent d f.seq w := by
  simp [Link.frameSent, h]

/-- With acknowledgement off the report leaves the queue (R187). -/
theorem Link.reportSent_off (off : d.ack = false) (seq : Byte) :
    l.reportSent d seq w = { l with reports := l.reports.filter (fun q => decide (q.seq ≠ seq)) } := by
  simp [Link.reportSent, off]

/-- With acknowledgement on the report is marked, and the resend timer starts as the window opens (R188). -/
theorem Link.reportSent_on (on : d.ack = true) (seq : Byte) :
    let sent := l.reports.map (fun q => if q.seq = seq then { q with st := if w then .due else .sent } else q)
    let waiting := fun q : Queued => decide (q.st ≠ .fresh)
    l.reportSent d seq w = { l with
      reports := sent
      resend := if l.reports.countP waiting = 0 ∧ sent.countP waiting = 1 then some d.resend else l.resend } := by
  intro sent waiting
  unfold Link.reportSent
  rw [if_pos on]
  change (if l.reports.countP waiting = 0 ∧ sent.countP waiting = 1 then _ else _) = _
  split <;> rfl

/-- An IDLE transmitter that has chosen has nothing to send, and choosing again changes nothing. -/
theorem Link.choose_wake_idle {a : Bool} (h : (l.wake a).tx = .idle) : (l.wake a).choose a = l.wake a := by
  have again := l.wake_wake a
  rwa [Link.wake, if_pos h] at again

end

/-- Settles O39: the end of a frame by what was in transmission, and the arbiter's choice after it. -/
theorem frameSentServesTheQueues : Obligations.FrameSentServesTheQueues := by
  intro s u d other
  have hu : u = s.wake := chosen_eq s
  clear_value u
  subst hu
  have ended : exec .frameSent s = .next s.wake.endFrame := rfl
  rw [State.endFrame_eq other] at ended
  refine ⟨_, ended, by simp [SameButLink, SamePlant], fun idle => ?_, fun f reply => ?_, fun f w report off => ?_,
    fun f w report on => ?_⟩
  · exact (congrArg (Link.choose · _) (Link.frameSent_idle idle)).trans (Link.choose_wake_idle idle)
  · exact congrArg (Link.choose · _) (Link.frameSent_reply reply)
  · exact congrArg₂ Link.choose ((Link.frameSent_report report).trans (Link.reportSent_off off f.seq)) off
  · exact congrArg₂ Link.choose ((Link.frameSent_report report).trans (Link.reportSent_on on f.seq)) on

/-! ## The go-back (R190) -/

theorem Link.goBack_eq (l : Link) :
    l.goBack = { l with
      reports := l.reports.map (fun q => { q with st := if q.st = .fresh then .fresh else .due })
      tx := (match l.tx with | .report f _ => .report f true | tx => tx) } := by
  have marked (q : Queued) : (if q.st = .fresh then q else { q with st := .due })
      = { q with st := if q.st = .fresh then .fresh else .due } := by
    split
    · next h => rw [← h]
    · rfl
  exact congrArg₂ (fun mark tx => ({ l with reports := l.reports.map mark, tx := tx } : Link)) (funext marked)
    (by cases l.tx <;> rfl)

theorem exec_goBack_stopped (h : s.link.resend = none) : exec .goBack s = .next s.wake := by
  simp [exec, execGoBack, State.carryOut, h]

/-- The running timer restarts, with the go-back where a report waits (R190). -/
theorem exec_goBack_running (h : s.link.resend ≠ none) :
    exec .goBack s = .next (State.wake { s.wake with link := {
      (if 0 < s.link.windowCount then s.wake.link.goBack else s.wake.link) with
      resend := some s.device.live.resend } }) := by
  obtain ⟨time, running⟩ := Option.ne_none_iff_exists'.1 h
  have woken : s.wake.link.resend = some time := by simpa using running
  have count : s.wake.link.windowCount = s.link.windowCount := s.link.wake_windowCount _
  simp only [exec, execGoBack, State.carryOut, woken, count]
  rfl

/-- Settles O40, by whether the timer runs and whether a report waits. -/
theorem goBackMarksTheWindow : Obligations.GoBackMarksTheWindow := by
  intro s
  refine ⟨fun stopped => by rw [chosen_eq, exec_goBack_stopped stopped], fun runs => ?_⟩
  intro waiting u
  have hu : u = s.wake := chosen_eq s
  clear_value u
  subst hu
  have exec_eq := exec_goBack_running runs
  refine ⟨fun none => ?_, fun some => ?_⟩
  · rw [if_neg (show ¬0 < s.link.windowCount from Nat.not_lt.2 none.le)] at exec_eq
    exact exec_eq.trans (congrArg _ (chosen_eq _).symm)
  · rw [if_pos (show 0 < s.link.windowCount from some), Link.goBack_eq] at exec_eq
    exact exec_eq.trans (congrArg _ (chosen_eq _).symm)

end Sys2Proof.Machine
end

section
/-!
PING (R205) and IDENTIFY (R206) only answer.
-/

namespace Sys2Proof.Machine

/-- The identity, the capacities and the free count (R206). -/
theorem blockIdentify_eq (s : State) :
    blockIdentify s =
      ([0x00, 0x4F, 0x57, 0x04, 0xC0, 3, 12, 16, 24, 0x01, 0x80, 16] ++ be16 s.store.free, s) := rfl

/-- Settles O6: both blocks hand back the state as it was. -/
theorem pingAndIdentifyOnlyAnswer : Obligations.PingAndIdentifyOnlyAnswer :=
  ⟨fun _ _ p h fits => onlyAnswers_of_block (block := blockPing p) h rfl (decide_eq_true fits) rfl,
    fun _ _ h => onlyAnswers_of_block h rfl rfl (blockIdentify_eq _)⟩

end Sys2Proof.Machine
end

section
/-!
The zone parameter form (R211), written and read back: what stands at each position of a record sent with every field
carried, from which the reader recovers the record (R162) and finds every field in its range (R160).
-/

namespace Sys2Proof.Machine

/-! ## The coded fields, read back (R202) -/

theorem HoldAction.read_code (a : HoldAction) :
    (if a.code.toNat = 0 then HoldAction.fallback else .regulate) = a := by
  cases a <;> rfl

theorem Polarity.read_code (a : Polarity) :
    (if a.code.toNat = 0 then Polarity.activeHigh else .activeLow) = a := by
  cases a <;> rfl

theorem HoldAction.code_le_one (a : HoldAction) : a.code.toNat ≤ 1 := by
  cases a <;> decide

theorem Polarity.code_le_one (a : Polarity) : a.code.toNat ≤ 1 := by
  cases a <;> decide

theorem selectionOf_sent (r : Selection) : selectionOf r.code = r := by
  obtain ⟨zoneState, segment, mark, settle⟩ := r
  revert zoneState segment mark settle
  decide

theorem Selection.code_le (r : Selection) : r.code.toNat ≤ 15 := by
  obtain ⟨zoneState, segment, mark, settle⟩ := r
  revert zoneState segment mark settle
  decide

/-! ## A guard entry (R110, R211) -/

/-- The limits and the qualify count of an entry, within their ranges (R110). -/
def GuardEntry.InRange (g : GuardEntry) : Prop :=
  InPu g.high ∧ (∀ l, g.low = some l → InPu l) ∧ 1 ≤ g.qualify ∧ g.qualify ≤ 15

/-- The seven bytes at a position are those of the entry: it is read there, and judged in its range. -/
def GuardSent (p : List Byte) (i : Nat) (g : GuardEntry) : Prop := guardAt p i = g ∧ GuardInRange p i

theorem bmod_of_inPu {x : Int} (h : InPu x) : x.bmod 65536 = x := by
  obtain ⟨low, high⟩ := h
  rw [Int.bmod_def]
  split <;> omega

theorem bitAt_flagByte (b : Bool) (p : List Byte) : bitAt (flagByte b :: p) 0 0 = b := by
  change (flagByte b).getLsbD 0 = b
  revert b
  decide

theorem guardBytes_length (g : Option GuardEntry) : (guardBytes g).length = 7 := by
  cases g <;> rfl

theorem guardBytes_sent {g : GuardEntry} (inRange : g.InRange) (p : List Byte) :
    GuardSent (guardBytes (some g) ++ p) 0 g := by
  obtain ⟨highFits, lowFits, least, most⟩ := inRange
  have number : g.sensor.val % 256 = g.sensor.val := by omega
  have count : g.qualify % 256 = g.qualify := by omega
  have low : (if g.low.isSome then some ((g.low.getD 0).bmod 65536) else none) = g.low := by
    cases present : g.low with
    | none => rfl
    | some l => exact congrArg some (bmod_of_inPu (lowFits l present))
  refine ⟨?_, ?_⟩
  · simp [guardAt, guardBytes, beS16, be16, int16_cons_succ, bitAt_cons_succ, int16_beS16, bitAt_flagByte, number,
      count, bmod_of_inPu highFits, low]
  · simpa [GuardInRange, guardBytes, beS16, be16, number, count, least, most] using Nat.le_of_lt_succ g.sensor.isLt

theorem guardSent_cons_succ (b : Byte) (p : List Byte) (i : Nat) (g : GuardEntry) :
    GuardSent (b :: p) (i + 1) g ↔ GuardSent p i g := Iff.rfl

theorem guardSent_append (o : Option GuardEntry) (p : List Byte) (i : Nat) (g : GuardEntry) :
    GuardSent (guardBytes o ++ p) (i + 7) g ↔ GuardSent p i g := by
  cases o <;> exact Iff.rfl

theorem at8_guardBytes_append (o : Option GuardEntry) (p : List Byte) (i : Nat) :
    at8 (guardBytes o ++ p) (i + 7) = at8 p i := by
  cases o <;> rfl

/-! ## What stands at each position -/

/-- The payload carries every field, and the bytes of each are those of the record. -/
structure FullySent (p : List Byte) (r : Params) : Prop where
  carried : ∀ k < 15, carried p k = true
  noFeedback : bitAt p 3 0 = r.feedback.isNone
  noSlew : bitAt p 3 1 = r.slew.isNone
  feedback : nat8 p 4 = (r.feedback.map Fin.val).getD 0
  kp : nat16 p 5 = r.kp
  ki : nat16 p 7 = r.ki
  floor : nat16 p 9 = r.floor
  ceiling : nat16 p 11 = r.ceiling
  slew : nat16 p 13 = r.slew.getD 0
  fallback : nat16 p 15 = r.fallback
  hold : at8 p 17 = r.hold.code
  phase : nat8 p 18 = r.phase
  frameOffset : nat8 p 19 = r.frameOffset
  weight : nat8 p 20 = r.weight
  reserve : nat16 p 21 = r.reserve
  polarity : at8 p 23 = r.polarity.code
  guardCount : nat8 p 24 = r.guards.length
  firstGuard : ∀ g, r.guards[0]? = some g → GuardSent p 25 g
  secondGuard : ∀ g, r.guards[1]? = some g → GuardSent p 32 g
  reports : at8 p 39 = r.reports.code

/-- The carried mask with all fifteen bits set. -/
theorem carried_all (b : Byte) (p : List Byte) {k : Nat} (field : k < 15) :
    carried (b :: 0x7F :: 0xFF :: p) k = true := by
  have mask : nat16 (b :: 0x7F :: 0xFF :: p) 1 = 2 ^ 15 - 1 := by simp [nat16]
  rw [carried, mask, Nat.testBit_two_pow_sub_one]
  exact decide_eq_true field

theorem Params.feedbackByte_le (r : Params) : (r.feedback.map Fin.val).getD 0 ≤ 15 := by
  cases r.feedback with
  | none => exact Nat.zero_le 15
  | some i => exact Nat.le_of_lt_succ i.isLt

theorem Params.bytes_length (r : Params) : r.bytes.length = 37 := by
  simp [Params.bytes, be16, guardBytes_length]

/-- A record within its ranges, as ZONE_GET_PARAM sends it. -/
theorem fullySent_bytes (b : Byte) {r : Params} (inRange : ParamsInRange r) :
    FullySent ([b, 0x7F, 0xFF] ++ r.bytes) r := by
  obtain ⟨kp, ki, floor, ceiling, slew, fallback, phase, frameOffset, weight, reserve, count, guards⟩ := inRange
  have sensor : (r.feedback.map Fin.val).getD 0 % 256 = (r.feedback.map Fin.val).getD 0 :=
    Nat.mod_eq_of_lt (Nat.lt_of_le_of_lt r.feedbackByte_le (by decide))
  have slewFits : r.slew.getD 0 % 65536 = r.slew.getD 0 := by
    cases rate : r.slew with
    | none => rfl
    | some n =>
      obtain ⟨-, most⟩ := slew n rate
      exact Nat.mod_eq_of_lt (Nat.lt_of_le_of_lt most (by decide))
  have entry {i : Nat} {g : GuardEntry} (there : r.guards[i]? = some g) : g.InRange :=
    guards g (List.mem_of_getElem? there)
  constructor
  case carried => exact fun k => carried_all b r.bytes
  case firstGuard =>
    intro g there
    simpa [Params.bytes, be16, guardSent_cons_succ, there] using guardBytes_sent (entry there) _
  case secondGuard =>
    intro g there
    simpa [Params.bytes, be16, guardSent_cons_succ, guardSent_append, there] using guardBytes_sent (entry there) _
  case noFeedback => simp [Params.bytes, bitAt_cons_succ, bitAt_flags]
  case noSlew => simp [Params.bytes, bitAt_cons_succ, bitAt_flags]
  case reports => simp [Params.bytes, be16, at8_guardBytes_append]
  all_goals simp [Params.bytes, be16, nat16_cons_succ, nat16_be16, sensor, slewFits]
  all_goals omega

/-! ## The record read back (R162) -/

section
variable {p : List Byte} {r : Params} (sent : FullySent p r)
include sent

theorem FullySent.feedback_read : (if bitAt p 3 0 then none else nibbleAt p 4) = r.feedback := by
  rw [sent.noFeedback]
  have number := sent.feedback
  cases sensor : r.feedback with
  | none => rfl
  | some i => exact nibbleAt_eq (by simpa [sensor] using number)

theorem FullySent.slew_read : (if bitAt p 3 1 then none else some (nat16 p 13)) = r.slew := by
  rw [sent.noSlew, sent.slew]
  cases r.slew <;> rfl

theorem FullySent.hold_read : (if nat8 p 17 = 0 then HoldAction.fallback else .regulate) = r.hold := by
  rw [nat8, sent.hold]
  exact r.hold.read_code

theorem FullySent.polarity_read : (if nat8 p 23 = 0 then Polarity.activeHigh else .activeLow) = r.polarity := by
  rw [nat8, sent.polarity]
  exact r.polarity.read_code

theorem FullySent.guards_read (count : r.guards.length ≤ 2) : guardsOf p = r.guards := by
  have number := sent.guardCount
  have first := sent.firstGuard
  have second := sent.secondGuard
  match guards : r.guards with
  | [] => simp [guardsOf, number, guards]
  | [a] =>
    obtain ⟨read, -⟩ := first a (by simp [guards])
    simp [guardsOf, number, guards, read]
  | [a, b] =>
    obtain ⟨readFirst, -⟩ := first a (by simp [guards])
    obtain ⟨readSecond, -⟩ := second b (by simp [guards])
    simp [guardsOf, number, guards, readFirst, readSecond]
  | _ :: _ :: _ :: _ => simp [guards] at count

theorem FullySent.reports_read : selectionOf (at8 p 39) = r.reports := by
  rw [sent.reports]
  exact selectionOf_sent r.reports

theorem FullySent.paramsWith_eq (count : r.guards.length ≤ 2) (old : Params) : paramsWith p old = r := by
  simp [paramsWith, sent.carried, sent.feedback_read, sent.kp, sent.ki, sent.floor, sent.ceiling, sent.slew_read,
    sent.fallback, sent.hold_read, sent.phase, sent.frameOffset, sent.weight, sent.reserve, sent.polarity_read,
    sent.guards_read count, sent.reports_read]

/-! ## The fields judged (R160) -/

theorem FullySent.guards_judged (count : r.guards.length ≤ 2) :
    nat8 p 24 ≤ 2 ∧ (1 ≤ nat8 p 24 → GuardInRange p 25) ∧ (2 ≤ nat8 p 24 → GuardInRange p 32) := by
  rw [sent.guardCount]
  exact ⟨count, fun some => (sent.firstGuard _ (List.getElem?_eq_getElem some)).2,
    fun two => (sent.secondGuard _ (List.getElem?_eq_getElem two)).2⟩

theorem FullySent.allInRange (inRange : ParamsInRange r) : AllInRange (paramFields p) := by
  obtain ⟨kp, ki, floor, ceiling, slew, fallback, -, frameOffset, -, reserve, count, -⟩ := inRange
  have feedback : nat8 p 4 ≤ 15 := by
    rw [sent.feedback]
    exact r.feedbackByte_le
  have rate (present : bitAt p 3 1 = false) : 1 ≤ nat16 p 13 ∧ nat16 p 13 ≤ 4096 :=
    slew _ (by simpa [present] using sent.slew_read.symm)
  have hold : nat8 p 17 ≤ 1 := by
    rw [nat8, sent.hold]
    exact r.hold.code_le_one
  have polarity : nat8 p 23 ≤ 1 := by
    rw [nat8, sent.polarity]
    exact r.polarity.code_le_one
  have reports : nat8 p 39 ≤ 15 := by
    rw [nat8, sent.reports]
    exact r.reports.code_le
  simp only [AllInRange, paramFields, List.forall_mem_cons]
  exact ⟨fun _ _ => feedback, fun _ => sent.kp.trans_le kp, fun _ => sent.ki.trans_le ki,
    fun _ => sent.floor.trans_le floor, fun _ => sent.ceiling.trans_le ceiling, fun _ => rate,
    fun _ => sent.fallback.trans_le fallback, fun _ => hold, fun _ => sent.frameOffset.trans_le frameOffset,
    fun _ => sent.reserve.trans_le reserve, fun _ => polarity, fun _ => sent.guards_judged count, fun _ => reports,
    List.forall_mem_nil _⟩

end

/-- Settles O28: the record is read off the positions at which its bytes stand, and so is the range of each field. -/
theorem paramFormRoundTrips : Obligations.ParamFormRoundTrips := by
  intro z r old inRange
  have sent := fullySent_bytes (byte z.val) inRange
  have count : r.guards.length ≤ 2 := by
    obtain ⟨-, -, -, -, -, -, -, -, -, -, count, -⟩ := inRange
    exact count
  exact ⟨r.bytes_length, sent.allInRange inRange, sent.paramsWith_eq count old⟩

end Sys2Proof.Machine
end

section
/-!
The front of the queue: a step takes the first waiting command off the queue and carries it out.
-/

namespace Sys2Proof.Machine

theorem step_of_pending {s : State} {c : Instr} {rest : List Instr} (front : s.pending = c :: rest) :
    step s = exec c { s with pending := rest } := by
  simp only [step, front]

/-- Settles O1: taking the command put at the front off the queue again gives the state back. -/
theorem stepRunsTheFrontCommand : Obligations.StepRunsTheFrontCommand := by
  intro c s
  have front : ({ s with pending := c :: s.pending } : State).pending = c :: s.pending := rfl
  exact step_of_pending front

end Sys2Proof.Machine
end
section
/-!
SUPPORT. A zone's frame boundary taken whole (R53, R75, R134, R150, R155, R166): what its five stages make of the zone,
which reports they submit, and what they leave.
-/

namespace Sys2Proof.Machine

/-! ## An event that reaches one zone -/

/-- An event that reaches one zone: it becomes `y` with these reports, and releases the program it held where
`released` says so. -/
structure Alters (s t : State) (z : ZoneId) (y : Zone) (reports : List Report) (released : Bool) : Prop where
  zone : ∀ z', t.zone z' = if z' = z then y else s.zone z'
  slot : ∀ k, t.slot k =
    { s.slot k with
      useCount := (s.slot k).useCount - if released && decide ((s.zone z).zr.active = some k) then 1 else 0 }
  link : t.link = reports.foldl Link.submit s.link
  rest : KeepsRest s t

section
variable {s t u : State} {z : ZoneId} {x y : Zone} {earlier later : List Report} {released : Bool}

theorem Alters.zone_same (h : Alters s t z x earlier released) : t.zone z = x := by
  rw [h.zone, if_pos rfl]

/-- A stage that goes before the release of the program, and leaves the zone its program. -/
theorem Alters.before (h : Alters s t z x earlier false) (program : x.zr.active = (s.zone z).zr.active)
    (k : Alters t u z y later released) : Alters s u z y (earlier ++ later) released := by
  refine ⟨fun z' => ?_, fun j => ?_, ?_, h.rest.trans k.rest⟩
  · rw [k.zone, h.zone]
    split <;> rfl
  · rw [k.slot, h.slot, h.zone_same, program]
    rfl
  · rw [k.link, h.link, List.foldl_append]

/-- A stage that releases nothing after one that may. -/
theorem Alters.andThen (h : Alters s t z x earlier released) (k : Alters t u z y later false) :
    Alters s u z y (earlier ++ later) released := by
  refine ⟨fun z' => ?_, fun j => ?_, ?_, h.rest.trans k.rest⟩
  · rw [k.zone, h.zone]
    split <;> rfl
  · rw [k.slot, h.slot]
    rfl
  · rw [k.link, h.link, List.foldl_append]

theorem State.setZone_alters (s : State) (z : ZoneId) (x : Zone) : Alters s (s.setZone z x) z x [] false :=
  ⟨fun z' => by simp, fun _ => rfl, rfl, ⟨rfl, rfl, rfl, rfl, rfl, rfl, rfl⟩⟩

/-- Reports submitted after an event are among its reports. -/
theorem Alters.submitAll (h : Alters s t z x earlier released) (rs : List Report) :
    Alters s (t.submitAll rs) z x (earlier ++ rs) released := by
  obtain ⟨zone, slot, link, ⟨free, sensors, scan, stop, modulator, device, pending⟩⟩ := h
  refine ⟨by simpa using zone, by simpa using slot, by rw [State.submitAll_link, link, List.foldl_append], ?_⟩
  constructor <;> simpa

end

/-! ## The stages -/

@[simp] theorem committed_zr (x : Zone) : (committed x).zr = x.zr := by
  unfold committed
  split <;> rfl

@[simp] theorem committed_ctl (x : Zone) : (committed x).ctl = x.ctl := by
  unfold committed
  split <;> rfl

@[simp] theorem committed_share (x : Zone) : (committed x).share = x.share := by
  unfold committed
  split <;> rfl

@[simp] theorem committed_pending (x : Zone) : (committed x).pending = false := by
  unfold committed
  split
  · rfl
  · next settled => exact Bool.eq_false_iff.2 settled

section
variable (s : State) (z : ZoneId)

/-- The report of a pending commit that is applied (R166). -/
def commitReports (z : ZoneId) (x : Zone) : List Report :=
  if x.pending then [.committed (some z) .applied] else []

theorem State.stagingStage_alters :
    Alters s (s.stagingStage z) z (committed (s.zone z)) (commitReports z (s.zone z)) false := by
  unfold State.stagingStage commitReports committed
  split
  · exact (s.setZone_alters z (s.zone z).applyCommit).submitAll [.committed (some z) .applied]
  · refine ⟨fun z' => ?_, fun _ => rfl, rfl, .refl s⟩
    split
    · next same => rw [same]
    · rfl

theorem State.executorStage_alters (u : Update) :
    Alters s (s.executorStage z u) z { s.zone z with zr := u.zr } u.reports u.released := by
  have moved := s.setZone_alters z { s.zone z with zr := u.zr }
  unfold State.executorStage
  dsimp only
  cases u.released with
  | false => exact moved.submitAll u.reports
  | true =>
    have freed : Alters s ((s.setZone z { s.zone z with zr := u.zr }).releaseProgram (s.zone z).zr.active) z
        { s.zone z with zr := u.zr } [] true := by
      refine ⟨fun z' => by simp, fun k => ?_, by simp, by constructor <;> simp⟩
      rw [State.releaseProgram_slot, State.setZone_slot]
      by_cases held : (s.zone z).zr.active = some k <;> simp [held]
    exact freed.submitAll u.reports

/-- The report of a changed trim (R155). -/
def trimReports (z : ZoneId) (was now : Bool) : List Report := if now = was then [] else [.budget z now]

theorem State.governorStage_alters (demand : Nat) :
    Alters s (s.governorStage z demand).2 z (s.grantedZone z demand)
      (trimReports z (s.zone z).share.trimmed (decide ((s.grantFor z demand).1 < demand))) false := by
  obtain ⟨store, device, ⟨sensors, scan, stop, modulator⟩, pending⟩ := s.governorStage_keeps z demand
  refine ⟨s.governorStage_zone z demand, fun k => by simp [State.slot, store], ?_,
    ⟨by rw [store], sensors, scan, stop, modulator, device, pending⟩⟩
  rw [State.governorStage_link, trimReports]
  split <;> rfl

end

/-! ## The boundary -/

section
variable (s : State) (z : ZoneId)

/-- What the executor's stage of the boundary leaves, the pending commit being applied (R53, R166). -/
def State.boundaryUpdate : Update := ((s.stagingStage z).env z).executorStage (s.zone z).zr

/-- The demand of the coming frame (R75 to R84). -/
def State.boundaryDemand : Demand :=
  demandOf ((s.stagingStage z).env z) (s.zone z).ctl (s.boundaryUpdate z).regime

/-- The grant and the draw that the governor makes of it (R150, R151). -/
def State.boundaryGrant : Nat × Nat := (s.stagingStage z).grantFor z (s.boundaryDemand z).demand

/-- The zone after its boundary (R134, R150, R155). -/
def State.boundaryZone : Zone :=
  { committed (s.zone z) with
    zr := (s.boundaryUpdate z).zr
    ctl := { acc := (s.boundaryDemand z).acc, lastDemand := (s.boundaryDemand z).demand,
             lastGrant := (s.boundaryGrant z).1,
             trimmedLast := decide ((s.boundaryGrant z).1 < (s.boundaryDemand z).demand),
             lastRegime := (s.boundaryDemand z).kind }
    frame := loadFrame (s.boundaryGrant z).1 (committed (s.zone z)).live.phase
    share := { holding := (s.boundaryGrant z).2,
               trimmed := decide ((s.boundaryGrant z).1 < (s.boundaryDemand z).demand) } }

/-- The reports of the boundary in their order (R48, R155, R166). -/
def State.boundaryReports : List Report :=
  commitReports z (s.zone z) ++ (s.boundaryUpdate z).reports
    ++ trimReports z (s.zone z).share.trimmed (decide ((s.boundaryGrant z).1 < (s.boundaryDemand z).demand))

theorem State.stagingStage_zone (y : ZoneId) :
    (s.stagingStage z).zone y = if y = z then committed (s.zone z) else s.zone y := (s.stagingStage_alters z).zone y

/-- The executor's stage moves no record that the pool is counted from (R149). -/
theorem State.executorStage_freeFor (u : Update) : (s.executorStage z u).freeFor z = s.freeFor z := by
  have altered := s.executorStage_alters z u
  have same (y : ZoneId) : ((s.executorStage z u).zone y).counted = (s.zone y).counted
      ∧ ((s.executorStage z u).zone y).share = (s.zone y).share := by
    rw [altered.zone]
    split
    · next own => rw [own]; exact ⟨rfl, rfl⟩
    · exact ⟨rfl, rfl⟩
  simp only [State.freeFor, State.countedReserves, same, altered.rest.device]

theorem State.executorStage_grantFor (u : Update) (demand : Nat) :
    (s.executorStage z u).grantFor z demand = s.grantFor z demand := by
  have altered := s.executorStage_alters z u
  simp only [State.grantFor, State.executorStage_freeFor, altered.rest.device, altered.zone_same]

/-- A boundary is its five stages in turn, taken together. -/
theorem State.boundary_alters :
    Alters s (s.boundary z) z (s.boundaryZone z) (s.boundaryReports z) (s.boundaryUpdate z).released := by
  have staged := s.stagingStage_alters z
  have executed := (s.stagingStage z).executorStage_alters z (s.boundaryUpdate z)
  have governed := ((s.stagingStage z).executorStage z (s.boundaryUpdate z)).governorStage_alters z
    (s.boundaryDemand z).demand
  have loaded := State.setZone_alters (((s.stagingStage z).executorStage z (s.boundaryUpdate z)).governorStage z
    (s.boundaryDemand z).demand).2 z (s.boundaryZone z)
  have whole := (staged.before (by simp) ((executed.andThen governed).andThen loaded))
  rw [executed.zone_same, State.executorStage_grantFor, staged.zone_same, List.append_nil, ← List.append_assoc,
    committed_share] at whole
  have boundary : s.boundary z = ((((s.stagingStage z).executorStage z (s.boundaryUpdate z)).governorStage z
      (s.boundaryDemand z).demand).2.setZone z (s.boundaryZone z)) := by
    have zone := executed.zone_same
    have governedZone := governed.zone_same
    have found := staged.zone_same
    rw [State.grantedZone, zone, found, State.executorStage_grantFor] at governedZone
    have updated : ((s.stagingStage z).env z).executorStage ((s.stagingStage z).zone z).zr = s.boundaryUpdate z := by
      rw [found, committed_zr]
      rfl
    have demanded : demandOf ((s.stagingStage z).env z)
        (((s.stagingStage z).executorStage z (s.boundaryUpdate z)).zone z).ctl (s.boundaryUpdate z).regime
        = s.boundaryDemand z := by
      rw [zone, found, committed_ctl]
      rfl
    unfold State.boundary
    simp only [updated, demanded, governedZone, State.governorStage_grant, State.executorStage_grantFor]
    rfl
  rw [boundary]
  exact whole

end

end Sys2Proof.Machine
end

section
/-!
SUPPORT. The states and the cause sets that the executor's stage of a boundary leaves (R47, R53 to R60).
-/

namespace Sys2Proof.Machine

/-- A zone record has causes exactly in HELD (R47). -/
def ZoneRec.CausesFit (r : ZoneRec) : Prop := r.state = .held ↔ r.causes.isEmpty = false

/-- RUNNING or STEPPING, and so without a cause (R46, R47). -/
structure ZoneRec.Runs (r : ZoneRec) : Prop where
  state : r.state = .running ∨ r.state = .stepping
  causes : r.causes.isEmpty = true

/-- What every update of an active zone leaves: causes exactly in HELD, no trip, and no regime without activity. -/
structure Update.Fits (u : Update) : Prop where
  causes : u.zr.CausesFit
  untripped : u.zr.state ≠ .tripped
  zero : u.zr.state.isActive = false → u.regime = .zero

@[simp] theorem Causes.only_isEmpty (c : Cause) : (Causes.only c).isEmpty = false := by
  cases c <;> rfl

@[simp] theorem Causes.none_isEmpty : Causes.none.isEmpty = true := rfl

theorem ZoneRec.CausesFit.isEmpty {r : ZoneRec} (fit : r.CausesFit) (free : r.state ≠ .held) :
    r.causes.isEmpty = true := by
  cases empty : r.causes.isEmpty with
  | true => rfl
  | false => exact absurd (fit.2 empty) free

theorem ZoneRec.CausesFit.of_isEmpty {r : ZoneRec} (free : r.state ≠ .held) (empty : r.causes.isEmpty = true) :
    r.CausesFit :=
  ⟨fun held => absurd held free, fun some => by simp [empty] at some⟩

theorem ZoneRec.Runs.free {r : ZoneRec} (run : r.Runs) : r.state ≠ .held := by
  rcases run.state with state | state <;> simp [state]

theorem ZoneRec.Runs.active {r : ZoneRec} (run : r.Runs) : r.state.isActive = true := by
  rcases run.state with state | state <;> simp [state, ZoneState.isActive]

theorem ZoneRec.Runs.of_same {r r' : ZoneRec} (run : r.Runs) (state : r'.state = r.state)
    (causes : r'.causes = r.causes) : r'.Runs :=
  ⟨state ▸ run.state, causes ▸ run.causes⟩

/-- An update that leaves the zone RUNNING or STEPPING. -/
theorem ZoneRec.Runs.fits {u : Update} (run : u.zr.Runs) : u.Fits where
  causes := .of_isEmpty run.free run.causes
  untripped := by rcases run.state with state | state <;> simp [state]
  zero inactive := by simp [run.active] at inactive

/-! ## Stages that leave the cause set -/

/-- The chain moves the position alone (R27, R37 to R41). -/
theorem RunEnv.chain_causes (e : RunEnv) (n i : Nat) (r : ZoneRec) (reports : List Report) :
    (e.chain n i r reports).1.causes = r.causes := by
  induction n generalizing i r reports with
  | zero =>
    unfold RunEnv.chain
    repeat' split
    all_goals rfl
  | succ n ih =>
    unfold RunEnv.chain
    repeat' split
    all_goals simp only [ih, ZoneRec.enter, ZoneRec.moveTo, ZoneRec.waitAt]

/-- The time charge moves the elapsed time and the hold-back flag alone (R25). -/
theorem RunEnv.charge_causes (e : RunEnv) (g : Seg) (r : ZoneRec) : (e.charge g r).causes = r.causes := by
  unfold RunEnv.charge RunEnv.chargeBanded
  repeat' split
  all_goals rfl

/-- The end test moves flags and the setpoint alone (R26). -/
theorem RunEnv.endTest_causes (e : RunEnv) (g : Seg) (r : ZoneRec) {r' : ZoneRec}
    (h : (e.endTest g r).record? = some r') : r'.causes = r.causes := by
  revert h
  unfold RunEnv.endTest RunEnv.endTestStep
  repeat' split
  all_goals
    intro h
    cases h
    try rfl

theorem RunEnv.chain_runs (e : RunEnv) {r : ZoneRec} (run : r.Runs) (n i : Nat) (reports : List Report) :
    (e.chain n i r reports).1.Runs :=
  run.of_same (e.chain_sameStand n i r reports).1 (e.chain_causes n i r reports)

theorem RunEnv.charge_runs (e : RunEnv) {r : ZoneRec} (run : r.Runs) (g : Seg) : (e.charge g r).Runs :=
  run.of_same (e.charge_sameStand g r).1 (e.charge_causes g r)

theorem RunEnv.endTest_runs (e : RunEnv) {r r' : ZoneRec} (run : r.Runs) {g : Seg}
    (h : (e.endTest g r).record? = some r') : r'.Runs :=
  run.of_same (e.endTest_sameStand g r h).1 (e.endTest_causes g r h)

/-! ## Updates -/

/-- A zone that holds at its boundary has that one cause (R47). -/
theorem RunEnv.hold_fits (e : RunEnv) (r : ZoneRec) (reports : List Report) (c : Cause) (why : StateReason)
    (target : Target) (released : Bool) : (e.hold r reports c why target released).Fits where
  causes := ⟨fun _ => Causes.only_isEmpty c, fun _ => rfl⟩
  untripped := nofun
  zero inactive := nomatch inactive

/-- A keeping boundary goes on or holds for SENSOR (R60). -/
theorem RunEnv.keep_fits (e : RunEnv) {r : ZoneRec} (keeps : r.state = .keeping) (empty : r.causes.isEmpty = true)
    (reports : List Report) (released : Bool) : (e.keep r reports released).Fits := by
  have fit : r.CausesFit := .of_isEmpty (by simp [keeps]) empty
  unfold RunEnv.keep
  split
  · exact ⟨fit, by simp [keeps], by simp [keeps, ZoneState.isActive]⟩
  split
  · exact e.hold_fits ..
  · exact ⟨fit, by simp [keeps], fun _ => rfl⟩

/-- The END of a program leaves the zone KEEPING, or IDLE with no output (R40, R67). -/
theorem RunEnv.finish_fits (e : RunEnv) {r : ZoneRec} (run : r.Runs) (reports : List Report) (keep : Bool) :
    (e.finish r reports keep).Fits := by
  cases keep with
  | true =>
    exact e.keep_fits (r := { r with state := .keeping, active := none, steps := 0, runMark := false }) rfl
      run.causes ..
  | false => exact ⟨.of_isEmpty nofun run.causes, nofun, fun _ => rfl⟩

theorem RunEnv.conclude_runs (e : RunEnv) {r : ZoneRec} (run : r.Runs) (reports : List Report) :
    (e.conclude r reports).zr.Runs := by
  unfold RunEnv.conclude
  repeat' split
  all_goals exact run.of_same rfl rfl

/-- The progress stage, by how its chain stops (R23, R41). -/
theorem RunEnv.progress_fits (e : RunEnv) {r : ZoneRec} (run : r.Runs) (i : Nat) (reports : List Report) :
    (e.progress i r reports).Fits := by
  have chained := e.chain_runs run Config.chainLimit i reports
  unfold RunEnv.progress
  split <;> rename_i stop <;> rw [stop] at chained
  · split
    · exact e.hold_fits ..
    · exact (e.conclude_runs chained _).fits
  · exact ZoneRec.Runs.fits (chained.of_same rfl rfl)
  · exact e.hold_fits ..
  · exact e.finish_fits chained ..
  · exact ZoneRec.Runs.fits (chained.of_same rfl rfl)

theorem RunEnv.fourStages_fits (e : RunEnv) {r : ZoneRec} (run : r.Runs) : (e.fourStages r).Fits := by
  unfold RunEnv.fourStages
  split
  · split
    · next g _ =>
      have charged := e.charge_runs run g
      dsimp only
      split
      · exact (e.conclude_runs charged _).fits
      · next r' _ ended => exact e.progress_fits (e.endTest_runs charged (by rw [ended]; rfl)) ..
      · exact e.hold_fits ..
    · exact (e.conclude_runs run _).fits
  · exact e.progress_fits run ..

/-- Counting a step changes neither state nor causes (R57). -/
theorem ZoneRec.countStep_same (r : ZoneRec) : r.countStep.state = r.state ∧ r.countStep.causes = r.causes := by
  unfold ZoneRec.countStep
  split <;> exact ⟨rfl, rfl⟩

theorem RunEnv.runUpdate_fits (e : RunEnv) {r : ZoneRec} (run : r.Runs) : (e.runUpdate r).Fits := by
  unfold RunEnv.runUpdate
  split
  · exact e.hold_fits ..
  · obtain ⟨causes, untripped, zero⟩ := e.fourStages_fits run
    obtain ⟨sameState, sameCauses⟩ := (e.fourStages r).zr.countStep_same
    unfold ZoneRec.CausesFit at causes
    refine ⟨?_, ?_, ?_⟩
    · simpa only [ZoneRec.CausesFit, sameState, sameCauses]
    · simpa only [sameState]
    · simpa only [sameState]

/-- The executor's stage of an active zone (R53). -/
theorem RunEnv.executorStage_fits (e : RunEnv) {r : ZoneRec} (fit : r.CausesFit) (active : r.state.isActive = true) :
    (e.executorStage r).Fits := by
  unfold RunEnv.executorStage
  split <;> rename_i state
  · exact e.runUpdate_fits ⟨.inl state, fit.isEmpty (by simp [state])⟩
  · split
    · exact e.hold_fits ..
    · exact e.runUpdate_fits ⟨.inr state, fit.isEmpty (by simp [state])⟩
  · exact ⟨fit, by simp [state], by simp [state, ZoneState.isActive]⟩
  · exact e.keep_fits state (fit.isEmpty (by simp [state])) ..
  · simp [state, ZoneState.isActive] at active
  · simp [state, ZoneState.isActive] at active

/-- The executor's stage of an IDLE or TRIPPED zone hands over zero and clears the run mark (R53). -/
theorem RunEnv.executorStage_inactive (e : RunEnv) {r : ZoneRec} (inactive : r.state.isActive = false) :
    e.executorStage r = { zr := { r with runMark := false }, reports := [], regime := .zero, released := false } := by
  unfold RunEnv.executorStage
  cases state : r.state with
  | idle | tripped => rfl
  | running | stepping | held | keeping => simp [state, ZoneState.isActive] at inactive

end Sys2Proof.Machine
end

section
/-!
The zones' states, causes, trip records, outputs and marks are kept consistent (R47, R116, R125, R137, R150, R160,
R161): each row of the table keeps them together, so every step does.
-/

namespace Sys2Proof.Machine

/-! ## The invariant, zone by zone -/

/-- A zone is consistent with a STOP input that is or is not asserted. Between a cycle start's events a new polarity may
be live that the pin does not show yet (R138): `driven` says that the pins are. -/
structure Zone.Sound (stopped driven : Bool) (x : Zone) : Prop where
  causes : x.zr.CausesFit
  record : x.zr.state = .tripped ↔ x.trip.isSome = true
  stops : stopped = true → x.zr.state.isActive = false
  unloaded : x.zr.state.isActive = false → x.frame.duty = 0 ∧ x.frame.coarse = 0 ∧ x.frame.fine = 0
  off : driven = true → x.zr.state.isActive = false → x.pin = level x.live.polarity false
  restricted : x.restricted = true → x.pending = true ∧ x.zr.state = .idle
  live : SoundRecord x.live
  staged : x.pending = true → SoundRecord x.staged
  trims : x.share.trimmed = x.ctl.trimmedLast

def ZonesSound (driven : Bool) (s : State) : Prop := ∀ z, (s.zone z).Sound s.stop.asserted driven

/-- The zones' invariants, as the obligation states them one by one. -/
theorem zonesSound_iff (s : State) :
    ZonesSound true s ↔ CausesExactlyWhenHeld s ∧ RecordsExactlyWhenTripped s ∧ NoneActiveWhileStopped s
      ∧ OutputsOffWhenInactive s ∧ RestrictedOnlyIdle s ∧ LiveRecordsSound s ∧ TrimFlagsAgree s := by
  constructor
  · intro sound
    exact ⟨fun z => (sound z).causes, fun z => (sound z).record, fun stopped z => (sound z).stops stopped,
      fun z inactive => ⟨(sound z).off rfl inactive, (sound z).unloaded inactive⟩, fun z => (sound z).restricted,
      fun z => ⟨(sound z).live, (sound z).staged⟩, fun z => (sound z).trims⟩
  · rintro ⟨causes, record, stops, outputs, restricted, records, trims⟩ z
    exact ⟨causes z, record z, fun stopped => stops stopped z, fun inactive => (outputs z inactive).2,
      fun _ inactive => (outputs z inactive).1, restricted z, (records z).1, (records z).2, trims z⟩

section
variable {s t : State} {z : ZoneId} {x : Zone} {stopped driven : Bool}

theorem Zone.Sound.undriven (sound : x.Sound stopped driven) : x.Sound stopped false :=
  { sound with off := nofun }

/-- Without the STOP input nothing is asked of active zones. -/
theorem Zone.Sound.released (sound : x.Sound stopped driven) : x.Sound false driven :=
  { sound with stops := nofun }

theorem ZonesSound.of_same (sound : ZonesSound driven s) (zones : t.zones = s.zones)
    (stop : t.stop.asserted = s.stop.asserted) : ZonesSound driven t := by
  intro z
  rw [(s.zones_eq_iff t).1 zones z, stop]
  exact sound z

theorem zonesSound_linkFree : LinkFree (ZonesSound driven) :=
  fun same sound => sound.of_same same.2.1 (by rw [same.2.2.2.1.2.2.1])

theorem ZonesSound.setZone (sound : ZonesSound driven s) (change : x.Sound s.stop.asserted driven) :
    ZonesSound driven (s.setZone z x) := by
  intro y
  rw [State.zone_setZone]
  split
  · exact change
  · exact sound y

theorem ZonesSound.submit (sound : ZonesSound driven s) (r : Report) : ZonesSound driven (s.submit r) :=
  sound.of_same rfl rfl

theorem ZonesSound.reportState (sound : ZonesSound driven s) (old : ZoneState) (why : StateReason) :
    ZonesSound driven (s.reportState z old why) :=
  sound.of_same (by simp) (by simp)

theorem ZonesSound.releaseProgram (sound : ZonesSound driven s) (held : Option SlotId) :
    ZonesSound driven (s.releaseProgram held) :=
  sound.of_same (by simp) (by simp)

end

/-! ## Changes of one zone -/

section
variable {stopped driven : Bool} {x : Zone}

/-- A cut output is at the inactive level for the live polarity, and its pattern is cleared (R140). -/
theorem Zone.Sound.cut (sound : x.Sound stopped driven) {r : ZoneRec} {trip : Option TripRec} (fit : r.CausesFit)
    (record : r.state = .tripped ↔ trip.isSome = true) (inactive : r.state.isActive = false)
    (unmarked : x.restricted = false) (exc : Excursions) :
    ({ x with zr := r, trip := trip, exc := exc, share := { x.share with holding := 0 }
              frame := { x.frame with duty := 0, coarse := 0, fine := 0 }
              pin := decide (x.live.polarity = .activeLow) } : Zone).Sound stopped driven where
  causes := fit
  record := record
  stops _ := inactive
  unloaded _ := ⟨rfl, rfl, rfl⟩
  off _ _ := (level_false _).symm
  restricted marked := by simp [unmarked] at marked
  live := sound.live
  staged := sound.staged
  trims := sound.trims

/-- A zone that leaves its program has no cause left (R68, R69). -/
theorem ZoneRec.leave_causesFit {r : ZoneRec} {new : ZoneState} (free : new ≠ .held) : (r.leave new).CausesFit :=
  .of_isEmpty free rfl

/-- Only an IDLE zone is marked (R160). -/
theorem Zone.Sound.unmarked (sound : x.Sound stopped driven) (busy : x.zr.state ≠ .idle) : x.restricted = false := by
  cases marked : x.restricted with
  | false => rfl
  | true => exact absurd (sound.restricted marked).2 busy

theorem Zone.Sound.counted (sound : x.Sound stopped driven) (exc : Excursions) :
    ({ x with exc := exc } : Zone).Sound stopped driven := { sound with }

/-- A trip cause leaves a zone consistent, whatever the STOP input (R117, R118, R125). -/
theorem Zone.Sound.trip (sound : x.Sound stopped driven) (c : TripCause) (g : Option TripGuard) (b : Bool) :
    (tripOf x c g).Sound b driven := by
  rcases ZoneState.active_cases x.zr.state with active | tripped | idle
  · have busy : x.zr.state ≠ .idle := by
      intro idle
      simp [idle, ZoneState.isActive] at active
    rw [tripOf_active active]
    have cut : (trippedFrom x c g).Sound stopped driven :=
      sound.cut (ZoneRec.leave_causesFit (new := .tripped) nofun) ⟨fun _ => rfl, fun _ => rfl⟩ rfl
        (sound.unmarked busy) ⟨0, 0⟩
    exact { cut with stops := fun _ => rfl }
  · have again : tripOf x c g = trippedAgain x := by simp [tripOf, tripped]
    rw [again]
    exact { sound with
      record := by simpa [trippedAgain] using sound.record
      stops := fun _ => by simp [trippedAgain, tripped, ZoneState.isActive] }
  · have same : tripOf x c g = x := by simp [tripOf, idle]
    rw [same]
    exact { sound with stops := fun _ => by simp [idle, ZoneState.isActive] }

/-- A change of the record of an active zone that leaves it active. -/
theorem Zone.Sound.withRecord (sound : x.Sound stopped driven) {r : ZoneRec} (was : x.zr.state.isActive = true)
    (fit : r.CausesFit) (active : r.state.isActive = true) : ({ x with zr := r } : Zone).Sound stopped driven where
  causes := fit
  record := by
    have untripped : x.zr.state ≠ .tripped := fun tripped => by simp [tripped, ZoneState.isActive] at was
    have still : r.state ≠ .tripped := fun tripped => by simp [tripped, ZoneState.isActive] at active
    simpa [still, untripped] using sound.record
  stops asserted := by simp [sound.stops asserted] at was
  unloaded inactive := by simp [active] at inactive
  off _ inactive := by simp [active] at inactive
  restricted marked := by simp [(sound.restricted marked).2, ZoneState.isActive] at was
  live := sound.live
  staged := sound.staged
  trims := sound.trims

end

/-! ## Starts, holds and trips -/

section
variable {s : State} {driven : Bool}

/-- A start is accepted on an unmarked zone alone, and never while the STOP input is asserted (R50). -/
theorem State.startFault_none_released {z : ZoneId} {k : SlotId} (accepted : s.startFault z k = none) :
    s.stop.asserted = false ∧ (s.zone z).restricted = false := by
  unfold State.startFault at accepted
  dsimp only at accepted
  repeat' split at accepted
  all_goals simp_all

theorem Zone.Sound.started {stopped : Bool} {x : Zone} (sound : x.Sound stopped driven) (idle : x.zr.state = .idle)
    (unmarked : x.restricted = false) (k : SlotId) (setpoint : Int) : (x.started k setpoint).Sound false driven where
  causes := .of_isEmpty nofun rfl
  record := by simpa [Zone.started, ZoneRec.start, idle] using sound.record
  stops := nofun
  unloaded := nofun
  off _ := nofun
  restricted marked := absurd (unmarked.symm.trans marked) nofun
  live := sound.live
  staged := sound.staged
  trims := sound.trims

theorem blockZoneStart_zonesSound (p : List Byte) (sound : ZonesSound driven s) :
    ZonesSound driven (blockZoneStart p s).2 :=
  onZone_keeps sound fun z => by
    split
    · exact sound
    split
    · exact sound
    · next accepted =>
      obtain ⟨idle, -⟩ := State.startFault_none accepted
      obtain ⟨released, unmarked⟩ := State.startFault_none_released accepted
      intro y
      have stop (v : Int) (k : SlotId) : (s.startZone z k v).stop = s.stop := by simp [State.startZone_eq]
      rw [State.startZone_zone, stop]
      split
      · exact released ▸ (sound z).started idle unmarked _ _
      · exact sound y

theorem blockZoneAbort_zonesSound (p : List Byte) (sound : ZonesSound driven s) :
    ZonesSound driven (blockZoneAbort p s).2 :=
  onZone_keeps sound fun z => by
    dsimp only
    split
    · exact sound
    · exact sound
    · next idle tripped =>
      have untripped : (s.zone z).trip.isSome ≠ true := fun some => tripped ((sound z).record.2 some)
      have aborted : ((s.zone z).abort).Sound s.stop.asserted driven := by
        have cut := (sound z).cut (trip := (s.zone z).trip)
          (ZoneRec.leave_causesFit (r := (s.zone z).zr) (new := .idle) nofun)
          ⟨nofun, fun some => absurd some untripped⟩ rfl ((sound z).unmarked idle) (s.zone z).exc
        rwa [← level_false] at cut
      exact ((sound.setZone aborted).releaseProgram _).reportState _ _

@[simp] theorem Causes.union_only_isEmpty (a : Causes) (c : Cause) : (a.union (.only c)).isEmpty = false := by
  cases c <;> simp [Causes.union, Causes.only, Causes.none, Causes.isEmpty]

/-- A cause that reaches an active zone leaves it HELD with a cause (R47). -/
theorem ZoneRec.holdFor_held {r : ZoneRec} (active : r.state.isActive = true) (c : Cause) :
    (r.holdFor c).state = .held ∧ (r.holdFor c).causes.isEmpty = false := by
  unfold ZoneRec.holdFor
  cases state : r.state with
  | running | stepping | keeping => exact ⟨rfl, Causes.only_isEmpty c⟩
  | held => exact ⟨rfl, Causes.union_only_isEmpty _ c⟩
  | idle | tripped => simp [state, ZoneState.isActive] at active

theorem ZoneRec.holdFor_inactive {r : ZoneRec} (inactive : r.state.isActive = false) (c : Cause) :
    r.holdFor c = r := by
  unfold ZoneRec.holdFor
  cases state : r.state with
  | running | stepping | keeping | held => simp [state, ZoneState.isActive] at inactive
  | idle | tripped => rfl

theorem Zone.Sound.holdFor {stopped : Bool} {x : Zone} (sound : x.Sound stopped driven) (c : Cause) :
    ({ x with zr := x.zr.holdFor c } : Zone).Sound stopped driven := by
  cases activity : x.zr.state.isActive with
  | false =>
    rw [ZoneRec.holdFor_inactive activity]
    exact sound
  | true =>
    obtain ⟨held, causes⟩ := ZoneRec.holdFor_held activity c
    exact sound.withRecord activity ⟨fun _ => causes, fun _ => held⟩ (by rw [held]; rfl)

theorem ZonesSound.holdZone (sound : ZonesSound driven s) (z : ZoneId) (c : Cause) (why : StateReason) :
    ZonesSound driven (s.holdZone z c why) := by
  have held := sound.setZone (z := z) ((sound z).holdFor c)
  unfold State.holdZone
  dsimp only
  split
  · exact held
  · exact held.reportState _ _

theorem blockZonePause_zonesSound (p : List Byte) (sound : ZonesSound driven s) :
    ZonesSound driven (blockZonePause p s).2 :=
  onZone_keeps sound fun z => by
    dsimp only
    split
    · exact sound.holdZone z _ _
    · exact sound

/-- A HELD zone that loses causes is HELD as long as one is left (R45, R63). -/
theorem ZoneRec.resume_fits {r : ZoneRec} (held : r.state = .held) (removed : Causes) :
    (r.resume removed).CausesFit ∧ (r.resume removed).state.isActive = true := by
  unfold ZoneRec.CausesFit ZoneRec.resume
  dsimp only
  cases left : (r.causes.minus removed).isEmpty with
  | true => cases target : r.target <;> exact ⟨⟨nofun, nofun⟩, rfl⟩
  | false => simp [held, ZoneState.isActive]

theorem blockZoneResume_zonesSound (p : List Byte) (sound : ZonesSound driven s) :
    ZonesSound driven (blockZoneResume p s).2 :=
  onZone_keeps sound fun z => by
    dsimp only
    split
    · exact sound
    next held =>
    have held : (s.zone z).zr.state = .held := by simpa using held
    have resumed (removed : Causes) :
        ZonesSound driven (s.setZone z { s.zone z with zr := (s.zone z).zr.resume removed }) := by
      obtain ⟨fit, active⟩ := ZoneRec.resume_fits held removed
      exact sound.setZone ((sound z).withRecord (by rw [held]; rfl) fit active)
    change ZonesSound driven (ite _ _ _)
    split
    · exact resumed _
    · exact (resumed _).reportState _ _

theorem ZoneRec.steppable_held {r : ZoneRec} (steppable : r.steppable = true) : r.state = .held := by
  simp only [ZoneRec.steppable, Bool.and_eq_true, decide_eq_true_eq] at steppable
  exact steppable.1.1.1

theorem blockZoneStep_zonesSound (p : List Byte) (sound : ZonesSound driven s) :
    ZonesSound driven (blockZoneStep p s).2 :=
  onZone_keeps sound fun z => by
    dsimp only
    split
    · exact sound
    split
    · next steppable =>
      have stepping := (sound z).withRecord
        (r := { (s.zone z).zr with state := .stepping, causes := .none, steps := nat8 p 1 })
        (by rw [ZoneRec.steppable_held steppable]; rfl) (.of_isEmpty nofun rfl) rfl
      exact (sound.setZone stepping).reportState _ _
    · exact sound

theorem blockZoneSkip_zonesSound (p : List Byte) (sound : ZonesSound driven s) :
    ZonesSound driven (blockZoneSkip p s).2 :=
  onZone_keeps sound fun z => by
    dsimp only
    split
    · exact sound.setZone { sound z with causes := (sound z).causes }
    · exact sound

theorem ZonesSound.trip (sound : ZonesSound driven s) (z : ZoneId) (c : TripCause) (g : Option TripGuard) :
    ZonesSound driven (s.trip z c g) := by
  obtain ⟨-, -, -, stop, -⟩ := s.trip_keeps z c g
  intro y
  rw [State.trip_zone, stop]
  split
  · exact (sound z).trip c g _
  · exact sound y

theorem ZonesSound.tripAll (sound : ZonesSound driven s) (c : TripCause) : ZonesSound driven (s.tripAll c) :=
  List.foldlRecOn _ _ sound fun _ h z _ => h.trip z c none

/-- The STOP input trips every active zone as it is asserted (R125). -/
theorem ZonesSound.assertStop (sound : ZonesSound driven s) : ZonesSound driven s.assertStop := by
  obtain ⟨-, zones, -⟩ := s.assertStop_spec
  intro z
  rw [zones z]
  exact (sound z).trip ..

theorem blockAllStop_zonesSound (sound : ZonesSound driven s) : ZonesSound driven (blockAllStop s).2 := by
  dsimp only [blockAllStop]
  exact sound.tripAll .hostAll

theorem blockZoneTrip_zonesSound (p : List Byte) (sound : ZonesSound driven s) :
    ZonesSound driven (blockZoneTrip p s).2 :=
  onZone_keeps sound fun z => by
    dsimp only
    split
    · exact sound.trip z _ _
    · exact sound

/-- A TRIPPED zone that is cleared is IDLE, its output off as it was (R123). -/
theorem Zone.Sound.clearTrip {stopped : Bool} {x : Zone} (sound : x.Sound stopped driven)
    (tripped : x.zr.state = .tripped) : x.clearTrip.Sound stopped driven where
  causes := .of_isEmpty nofun (sound.causes.isEmpty (by simp [tripped]))
  record := ⟨nofun, nofun⟩
  stops _ := rfl
  unloaded _ := sound.unloaded (by rw [tripped]; rfl)
  off shown _ := sound.off shown (by rw [tripped]; rfl)
  restricted marked := absurd ((sound.unmarked (by simp [tripped])).symm.trans marked) nofun
  live := sound.live
  staged := sound.staged
  trims := sound.trims

theorem blockZoneClearTrip_zonesSound (p : List Byte) (sound : ZonesSound driven s) :
    ZonesSound driven (blockZoneClearTrip p s).2 :=
  onZone_keeps sound fun z => by
    dsimp only
    split
    · exact sound
    next tripped =>
    split
    · exact sound
    split
    · exact sound
    · exact (sound.setZone ((sound z).clearTrip (by simpa using tripped))).reportState _ _

end

end Sys2Proof.Machine
end

section
/-!
The zones' consistency through the requests that leave the zones' states, the events of the line and the pins, the
resets and the cycle start (R137, R138, R160, R161, R166), and so through every row of the table.
-/

namespace Sys2Proof.Machine

section
variable {s : State} {driven : Bool}

/-! ## Requests that leave the states of the zones -/

/-- A commit is accepted of a sound record alone, and of a restricted change on an IDLE zone alone (R160, R164). -/
theorem State.commitFault_none_sound {z : ZoneId} (accepted : s.commitFault z = none) :
    SoundRecord (s.zone z).staged
    ∧ (restrictedDiffers (s.zone z).staged (s.zone z).live = true → (s.zone z).zr.state = .idle) := by
  unfold State.commitFault at accepted
  dsimp only at accepted
  repeat' split at accepted
  all_goals simp_all [SoundRecord]

theorem blockZoneCommit_zonesSound (p : List Byte) (sound : ZonesSound driven s) :
    ZonesSound driven (blockZoneCommit p s).2 :=
  onZone_keeps sound fun z => by
    dsimp only
    split
    · exact sound
    · next accepted =>
      obtain ⟨staged, idle⟩ := State.commitFault_none_sound accepted
      exact sound.setZone { sound z with
        restricted := fun marked => ⟨rfl, idle marked⟩
        staged := fun _ => staged }

theorem blockZoneSetParam_zonesSound (p : List Byte) (sound : ZonesSound driven s) :
    ZonesSound driven (blockZoneSetParam p s).2 :=
  onZone_keeps sound fun z => by
    dsimp only
    split
    · exact sound
    next settled =>
    split
    · exact sound
    · exact sound.setZone { sound z with staged := fun pending => absurd pending settled }

theorem blockZoneGetParam_zonesSound (p : List Byte) (sound : ZonesSound driven s) :
    ZonesSound driven (blockZoneGetParam p s).2 :=
  onZone_keeps sound fun z => by
    dsimp only
    split <;> exact sound

theorem blockZoneDiscard_zonesSound (p : List Byte) (sound : ZonesSound driven s) :
    ZonesSound driven (blockZoneDiscard p s).2 :=
  onZone_keeps sound fun z => by
    have discarded : ZonesSound driven (s.setZone z { s.zone z with
        staged := (s.zone z).live, pending := false, restricted := false }) :=
      sound.setZone { sound z with restricted := nofun, staged := nofun }
    dsimp only
    split
    · exact discarded.submit _
    · exact discarded

theorem blockDeviceSet_zonesSound (p : List Byte) (sound : ZonesSound driven s) :
    ZonesSound driven (blockDeviceSet p s).2 := by
  unfold blockDeviceSet
  repeat' split
  · exact sound
  · exact sound
  · exact sound.of_same rfl rfl

theorem blockDeviceGet_zonesSound (p : List Byte) (sound : ZonesSound driven s) :
    ZonesSound driven (blockDeviceGet p s).2 := by
  unfold blockDeviceGet
  split <;> exact sound

theorem blockDeviceCommit_zonesSound (sound : ZonesSound driven s) : ZonesSound driven (blockDeviceCommit s).2 := by
  unfold blockDeviceCommit
  split
  · exact sound
  · exact sound.of_same rfl rfl

/-- A request of the program store changes no zone (R5 to R16). -/
theorem onSlot_zonesSound {p : List Byte} {block : SlotId → Answer} (sound : ZonesSound driven s)
    (same : ∀ k, (block k).2.zones = s.zones ∧ (block k).2.stop = s.stop) :
    ZonesSound driven (onSlot p s block).2 :=
  onSlot_keeps sound fun k => sound.of_same (same k).1 (by rw [(same k).2])

theorem blockProgOpen_zonesSound (p : List Byte) (sound : ZonesSound driven s) :
    ZonesSound driven (blockProgOpen p s).2 :=
  onSlot_zonesSound sound fun k => by
    dsimp only
    split <;> exact ⟨rfl, rfl⟩

theorem blockProgDelete_zonesSound (p : List Byte) (sound : ZonesSound driven s) :
    ZonesSound driven (blockProgDelete p s).2 :=
  onSlot_zonesSound sound fun k => by
    dsimp only
    split <;> exact ⟨rfl, rfl⟩

theorem blockProgAppend_zonesSound (p : List Byte) (sound : ZonesSound driven s) :
    ZonesSound driven (blockProgAppend p s).2 :=
  onSlot_zonesSound sound fun k => by
    dsimp only
    repeat' split
    all_goals exact ⟨rfl, rfl⟩

theorem blockProgSeal_zonesSound (p : List Byte) (sound : ZonesSound driven s) :
    ZonesSound driven (blockProgSeal p s).2 :=
  onSlot_zonesSound sound fun k => by
    dsimp only
    repeat' split
    all_goals exact ⟨rfl, rfl⟩

theorem blockProgRead_zonesSound (p : List Byte) (sound : ZonesSound driven s) :
    ZonesSound driven (blockProgRead p s).2 :=
  onSlot_zonesSound sound fun k => by
    dsimp only
    repeat' split
    all_goals exact ⟨rfl, rfl⟩

theorem blockSensorSet_zonesSound (p : List Byte) (sound : ZonesSound driven s) :
    ZonesSound driven (blockSensorSet p s).2 :=
  onSensor_keeps sound fun i => by
    split
    · exact sound
    · exact sound.of_same rfl rfl

theorem ZonesSound.takePending (sound : ZonesSound driven s) (order : List SensorId) :
    ZonesSound driven (s.takePending order) := by
  obtain ⟨zones, -, stop, -⟩ := s.takePending_keeps order
  exact sound.of_same zones (by rw [stop])

theorem blockScanSet_zonesSound (p : List Byte) (sound : ZonesSound driven s) :
    ZonesSound driven (blockScanSet p s).2 := by
  unfold blockScanSet
  split
  · exact sound
  next list _ =>
  have listed : ZonesSound driven { s with scan := { s.scan with pending := some list } } := sound.of_same rfl rfl
  dsimp only
  split
  · exact (listed.takePending _).of_same rfl rfl
  · exact listed

/-! ## The line, the silence timer and the resets -/

/-- An operation of the line, the timers or the transmitter touches the link alone. -/
theorem ZonesSound.ofLink {t : State} (sound : ZonesSound driven s) (same : SameButLink s t) : ZonesSound driven t :=
  zonesSound_linkFree same sound

theorem State.goodFrame_sameButLink (s : State) (f : WireFrame) : SameButLink s (s.goodFrame f) := by
  simp [SameButLink, SamePlant, State.goodFrame]

theorem ZonesSound.collect (sound : ZonesSound driven s) (bytes : List Byte) : ZonesSound driven (s.collect bytes) := by
  have hunting : ZonesSound driven s.hunt := sound.of_same rfl rfl
  unfold State.collect
  repeat' split
  · exact hunting.of_same rfl rfl
  · exact hunting.ofLink (State.goodFrame_sameButLink _ _)
  · exact hunting.of_same rfl rfl
  · exact sound.of_same rfl rfl

theorem ZonesSound.loseLink (sound : ZonesSound driven s) : ZonesSound driven s.loseLink := by
  unfold State.loseLink
  split
  · exact sound
  · exact sound.of_same rfl rfl

theorem ZonesSound.holdForLink (sound : ZonesSound driven s) (z : ZoneId) : ZonesSound driven (s.holdForLink z) :=
  sound.holdZone z _ _

/-- A soft reset clears the STOP input, leaves a TRIPPED zone its record and returns every other to IDLE, its output
off (R73, R129, R147). -/
theorem Zone.Sound.softReset {stopped : Bool} {x : Zone} (sound : x.Sound stopped driven) :
    x.softReset.Sound false driven where
  causes := by
    unfold ZoneRec.CausesFit Zone.softReset ZoneRec.softReset
    dsimp only
    split
    · exact sound.causes
    · exact ⟨nofun, nofun⟩
  record := by
    unfold Zone.softReset ZoneRec.softReset
    dsimp only
    split
    · exact sound.record
    · next untripped => exact ⟨nofun, fun some => absurd (sound.record.2 some) untripped⟩
  stops := nofun
  unloaded _ := ⟨rfl, rfl, rfl⟩
  off _ _ := rfl
  restricted := nofun
  live := sound.live
  staged := nofun
  trims := rfl

theorem ZonesSound.softResetAll (sound : ZonesSound driven s) : ZonesSound driven s.softResetAll := by
  intro z
  rw [State.softResetAll_zone]
  exact (sound z).softReset

theorem Zone.reset_sound : Zone.reset.Sound false driven where
  causes := ⟨nofun, nofun⟩
  record := ⟨nofun, nofun⟩
  stops := nofun
  unloaded _ := ⟨rfl, rfl, rfl⟩
  off _ _ := rfl
  restricted := nofun
  live := by unfold SoundRecord; decide
  staged := nofun
  trims := rfl

theorem zonesSound_afterHardReset (rate : LinkRate) (cause : StartCause) :
    ZonesSound driven (State.afterHardReset rate cause) := by
  intro z
  rw [State.afterHardReset_zone]
  exact Zone.reset_sound

theorem ZonesSound.endFrame (sound : ZonesSound driven s) : ZonesSound driven s.endFrame := by
  unfold State.endFrame
  split
  · exact sound.softResetAll
  · exact sound.of_same rfl rfl

/-! ## The converter -/

theorem ZonesSound.judgeZone (sound : ZonesSound driven s) (z : ZoneId) (g : GuardEntry) (k : Nat) (reading : Int) :
    ZonesSound driven (s.judgeZone z g k reading) := by
  have counted (exc : Excursions) : ZonesSound driven (s.setZone z { s.zone z with exc := exc }) :=
    sound.setZone ((sound z).counted exc)
  unfold State.judgeZone
  dsimp only
  split
  · exact counted _
  split
  · exact (counted _).trip z _ _
  · exact counted _

theorem ZonesSound.evaluateZone (sound : ZonesSound driven s) (o : Offer) (z : ZoneId) :
    ZonesSound driven (s.evaluateZone o z) := by
  unfold State.evaluateZone
  repeat' split
  · exact sound
  · exact sound
  · exact sound.judgeZone z _ _ _
  · exact sound.trip z _ _
  · exact sound

theorem ZonesSound.handleReading (sound : ZonesSound driven s) (i : SensorId) (code : Nat) :
    ZonesSound driven (s.handleReading i code) := by
  have stored : ZonesSound driven (s.setSensor i ((s.sensor i).complete code)) := sound.of_same rfl rfl
  unfold State.handleReading
  refine List.foldlRecOn _ _ ?_ fun _ h z _ => h.evaluateZone _ z
  split
  · exact stored.submit _
  · exact stored

theorem ZonesSound.nextConversion (sound : ZonesSound driven s) (index : Nat) (order : List SensorId) :
    ZonesSound driven (s.nextConversion index order) := by
  unfold State.nextConversion
  split
  · exact sound.of_same rfl rfl
  · exact (sound.takePending order).of_same rfl rfl

/-! ## The modulator and the boundaries -/

/-- A pattern without duty makes no tick active (R135, R136). -/
theorem FrameRec.activeAt_unloaded {f : FrameRec} (coarse : f.coarse = 0) (fine : f.fine = 0) (t : Nat) :
    f.activeAt t = false := by
  simp [FrameRec.activeAt, FrameRec.tickCount, coarse, fine]

/-- Driving the pins shows the pattern of every zone (R137, R138). -/
theorem Zone.Sound.drive {stopped : Bool} {x : Zone} (sound : x.Sound stopped false) (tick : Nat) :
    (x.drive tick).Sound stopped true where
  causes := sound.causes
  record := sound.record
  stops := sound.stops
  unloaded := sound.unloaded
  off _ inactive := by
    obtain ⟨-, coarse, fine⟩ := sound.unloaded inactive
    simp [Zone.drive, FrameRec.activeAt_unloaded coarse fine]
  restricted := sound.restricted
  live := sound.live
  staged := sound.staged
  trims := sound.trims

theorem ZonesSound.startTick (sound : ZonesSound false s) (tick : Nat) : ZonesSound true (s.startTick tick) := by
  intro z
  rw [State.startTick_zone]
  exact (sound z).drive tick

/-- The live record after a commit is the sound one that was staged (R161, R166). -/
theorem Zone.Sound.committed_live {stopped : Bool} {x : Zone} (sound : x.Sound stopped driven) :
    SoundRecord (committed x).live := by
  unfold committed
  split
  · next pending => exact sound.staged pending
  · exact sound.live

theorem Zone.Sound.committed_restricted {stopped : Bool} {x : Zone} (sound : x.Sound stopped driven) :
    (committed x).restricted = false := by
  unfold committed
  split
  · rfl
  · next settled => exact Bool.eq_false_iff.2 fun marked => settled (sound.restricted marked).1

/-- An IDLE or TRIPPED zone demands nothing at its boundary, so no duty is loaded (R81, R134, R150). -/
theorem State.boundaryGrant_inactive {z : ZoneId} (inactive : (s.zone z).zr.state.isActive = false) :
    (s.boundaryGrant z).1 = 0 := by
  have zero : (s.boundaryDemand z).demand = 0 := by
    unfold State.boundaryDemand State.boundaryUpdate
    rw [RunEnv.executorStage_inactive _ inactive]
    rfl
  have least : (s.boundaryGrant z).1 ≤ (s.boundaryDemand z).demand := grantOf_le_demand ..
  omega

/-- A boundary that leaves the zone inactive loads no duty: it was inactive, or its END has handed over zero (R40,
R53). -/
theorem State.boundaryGrant_zero {z : ZoneId} (fit : (s.zone z).zr.CausesFit)
    (inactive : (s.boundaryUpdate z).zr.state.isActive = false) : (s.boundaryGrant z).1 = 0 := by
  cases was : (s.zone z).zr.state.isActive with
  | false => exact State.boundaryGrant_inactive was
  | true =>
    have zero : (s.boundaryDemand z).demand = 0 := by
      have regime : (s.boundaryUpdate z).regime = .zero := (RunEnv.executorStage_fits _ fit was).zero inactive
      unfold State.boundaryDemand
      rw [regime]
      rfl
    have least : (s.boundaryGrant z).1 ≤ (s.boundaryDemand z).demand := grantOf_le_demand ..
    omega

/-- What the executor's stage leaves of a consistent zone's record. -/
theorem State.boundaryUpdate_record {z : ZoneId} {stopped : Bool} (sound : (s.zone z).Sound stopped driven) :
    (s.boundaryUpdate z).zr.CausesFit
    ∧ ((s.boundaryUpdate z).zr.state = .tripped ↔ (s.zone z).trip.isSome = true)
    ∧ (stopped = true → (s.boundaryUpdate z).zr.state.isActive = false) := by
  cases was : (s.zone z).zr.state.isActive with
  | false =>
    have same : s.boundaryUpdate z = _ := RunEnv.executorStage_inactive _ was
    rw [same]
    exact ⟨sound.causes, sound.record, fun _ => was⟩
  | true =>
    have fits : (s.boundaryUpdate z).Fits := RunEnv.executorStage_fits _ sound.causes was
    have untripped : (s.zone z).zr.state ≠ .tripped := fun tripped => by simp [tripped, ZoneState.isActive] at was
    exact ⟨fits.causes, ⟨fun tripped => absurd tripped fits.untripped, fun some => absurd (sound.record.2 some) untripped⟩,
      fun asserted => by simp [sound.stops asserted] at was⟩

theorem ZonesSound.boundaryZone (sound : ZonesSound driven s) (z : ZoneId) :
    (s.boundaryZone z).Sound s.stop.asserted false := by
  obtain ⟨causes, record, stops⟩ := State.boundaryUpdate_record (sound z)
  refine ⟨causes, ?_, stops, fun inactive => ?_, nofun, fun marked => ?_, (sound z).committed_live, ?_, rfl⟩
  · have trip : (committed (s.zone z)).trip = (s.zone z).trip := by
      unfold committed
      split <;> rfl
    rw [← trip] at record
    exact record
  · have zero := State.boundaryGrant_zero (sound z).causes inactive
    exact ⟨zero, by simp [State.boundaryZone, loadFrame, zero], by simp [State.boundaryZone, loadFrame, zero]⟩
  · exact absurd ((sound z).committed_restricted.symm.trans marked) nofun
  · intro pending
    exact absurd ((committed_pending (s.zone z)).symm.trans pending) nofun

theorem ZonesSound.cycleZone (sound : ZonesSound false s) (z : ZoneId) : ZonesSound false (s.cycleZone z) := by
  unfold State.cycleZone
  split
  · have altered := s.boundary_alters z
    intro y
    rw [altered.zone, altered.rest.stop]
    split
    · exact sound.boundaryZone z
    · exact sound y
  · exact sound.setZone { sound z with off := nofun }

theorem ZonesSound.beginCycle (sound : ZonesSound driven s) : ZonesSound driven s.beginCycle := by
  have applied : ZonesSound driven s.applyDevice := by
    unfold State.applyDevice
    split
    · exact sound.of_same rfl rfl
    · exact sound
  exact applied.of_same rfl rfl

theorem ZonesSound.cycleEvent (sound : ZonesSound false s) (e : CycleEvent) : ZonesSound false (s.cycleEvent e) := by
  cases e with
  | start => exact sound.beginCycle
  | boundary z => exact sound.cycleZone z
  | expiry => exact sound.loseLink
  | hold z => exact sound.holdForLink z

/-- The pins are driven last, so that a polarity that a boundary has committed shows (R138, R166). -/
theorem ZonesSound.startCycle (sound : ZonesSound driven s) (order : List CycleEvent) :
    ZonesSound true (s.startCycle order) := by
  have undriven : ZonesSound false s := fun z => (sound z).undriven
  have events : ZonesSound false ((s.cycleOrder order).foldl State.cycleEvent s) :=
    List.foldlRecOn _ _ undriven fun _ h e _ => h.cycleEvent e
  exact events.startTick 0

end

/-! ## The events -/

section
variable {s t : State}

/-- Every row but a hard reset carries out its effect between two choices of an IDLE transmitter (R183). -/
theorem ZonesSound.carryOut {effect : State → State} (sound : ZonesSound true s)
    (h : s.carryOut effect = .next t) (he : ∀ u, ZonesSound true u → ZonesSound true (effect u)) : ZonesSound true t :=
  zonesSound_linkFree.carryOut he h sound

theorem execRetry_zonesSound {seq kind : Byte} {payload : List Byte} (h : execRetry seq kind payload s = .next t)
    (sound : ZonesSound true s) : ZonesSound true t := by
  unfold execRetry at h
  refine sound.carryOut h fun u hu => ?_
  split
  · exact zonesSound_linkFree.serve_payload _ _ _ hu
  · exact hu

theorem execUnknownKind_zonesSound {seq kind : Byte} {payload : List Byte}
    (h : execUnknownKind seq kind payload s = .next t) (sound : ZonesSound true s) : ZonesSound true t := by
  unfold execUnknownKind at h
  refine sound.carryOut h fun u hu => ?_
  split
  · exact hu
  · exact zonesSound_linkFree.serve_payload _ _ _ hu

theorem execGoodFrame_zonesSound {seq kind : Byte} {payload : List Byte}
    (h : execGoodFrame seq kind payload s = .next t) (sound : ZonesSound true s) : ZonesSound true t := by
  unfold execGoodFrame at h
  refine sound.carryOut h fun u hu => ?_
  split
  · have hunting : ZonesSound true u.hunt := hu.of_same rfl rfl
    exact hunting.ofLink (State.goodFrame_sameButLink _ _)
  · exact hu

theorem execFrameGap_zonesSound (h : execFrameGap s = .next t) (sound : ZonesSound true s) : ZonesSound true t := by
  unfold execFrameGap at h
  refine sound.carryOut h fun u hu => ?_
  split
  · exact hu
  · exact hu.of_same rfl rfl

theorem execSilenceTimerExpiry_zonesSound {order : List Nat} (h : execSilenceTimerExpiry order s = .next t)
    (sound : ZonesSound true s) : ZonesSound true t := by
  unfold execSilenceTimerExpiry at h
  refine sound.carryOut h fun u hu => ?_
  split
  · exact hu
  · exact List.foldlRecOn _ _ hu.loseLink fun _ h z _ => h.holdForLink z

theorem execGoBack_zonesSound (h : execGoBack s = .next t) (sound : ZonesSound true s) : ZonesSound true t := by
  unfold execGoBack at h
  refine sound.carryOut h fun u hu => ?_
  dsimp only
  split
  · exact hu
  · exact hu.of_same rfl rfl

theorem execTick_zonesSound (h : execTick s = .next t) (sound : ZonesSound true s) : ZonesSound true t := by
  unfold execTick at h
  refine sound.carryOut h fun u hu => ?_
  split
  · exact hu
  · have undriven : ZonesSound false u := fun z => (hu z).undriven
    exact undriven.startTick _

theorem execCycleStart_zonesSound {order : List CycleEvent} (h : execCycleStart order s = .next t)
    (sound : ZonesSound true s) : ZonesSound true t := by
  unfold execCycleStart at h
  refine sound.carryOut h fun u hu => ?_
  split
  · exact hu.startCycle _
  · exact hu

theorem execConversionCompletion_zonesSound {code : BitVec 12} {order : List Nat}
    (h : execConversionCompletion code order s = .next t) (sound : ZonesSound true s) : ZonesSound true t := by
  unfold execConversionCompletion at h
  refine sound.carryOut h fun u hu => ?_
  repeat' split
  · exact hu
  · exact hu
  · exact (hu.handleReading _ _).nextConversion _ _

/-- The qualifier's counts are no matter of the zones; its release asks nothing of them (R126, R127). -/
theorem execStopSample_zonesSound {high : Bool} (h : execStopSample high s = .next t) (sound : ZonesSound true s) :
    ZonesSound true t := by
  unfold execStopSample at h
  refine sound.carryOut h fun u hu => ?_
  dsimp only
  split
  · split
    · exact hu.assertStop
    · exact hu.of_same rfl rfl
  · exact hu.of_same rfl rfl
  · split
    · exact fun z => (hu z).released
    · exact hu.of_same rfl rfl
  · exact hu.of_same rfl rfl

theorem execReceivedByte_zonesSound {b : Byte} (h : execReceivedByte b s = .next t) (sound : ZonesSound true s) :
    ZonesSound true t := by
  unfold execReceivedByte at h
  refine sound.carryOut h fun u hu => ?_
  dsimp only
  repeat' split
  · exact hu.of_same rfl rfl
  · exact hu
  · exact hu.collect _

theorem execSoftReset_zonesSound (h : execSoftReset s = .next t) (sound : ZonesSound true s) : ZonesSound true t := by
  have woken : ZonesSound true s.wake := sound.ofLink s.wake_sameButLink
  cases h
  split
  · exact woken.softResetAll
  · exact woken

/-! ## Every row -/

/-- Each row of the table keeps the zones consistent: a request row as its block does, an event as its effect does. -/
theorem ZonesSound.exec {c : Instr} (h : Machine.exec c s = .next t) (sound : ZonesSound true s) :
    ZonesSound true t := by
  have request {block : State → Answer} {f : WireFrame} {ok : Bool}
      (hc : Machine.exec c s = s.carryOut (·.serve f ok block))
      (hb : ∀ {u}, ZonesSound true u → ZonesSound true (block u).2) : ZonesSound true t :=
    zonesSound_linkFree.request (fun _ => hb) (hc ▸ h) sound
  cases c with
  | ping | identify | scanGet => exact request rfl fun hu => hu
  | restart | ackReports => exact request rfl fun hu => hu.of_same rfl rfl
  | allStop => exact request rfl blockAllStop_zonesSound
  | deviceSet => exact request rfl (blockDeviceSet_zonesSound _)
  | deviceGet => exact request rfl (blockDeviceGet_zonesSound _)
  | deviceCommit => exact request rfl blockDeviceCommit_zonesSound
  | progOpen => exact request rfl (blockProgOpen_zonesSound _)
  | progAppend => exact request rfl (blockProgAppend_zonesSound _)
  | progSeal => exact request rfl (blockProgSeal_zonesSound _)
  | progDelete => exact request rfl (blockProgDelete_zonesSound _)
  | progInfo => exact request rfl fun hu => onSlot_keeps hu fun _ => hu
  | progRead => exact request rfl (blockProgRead_zonesSound _)
  | zoneStart => exact request rfl (blockZoneStart_zonesSound _)
  | zoneAbort => exact request rfl (blockZoneAbort_zonesSound _)
  | zonePause => exact request rfl (blockZonePause_zonesSound _)
  | zoneResume => exact request rfl (blockZoneResume_zonesSound _)
  | zoneStep => exact request rfl (blockZoneStep_zonesSound _)
  | zoneSkip => exact request rfl (blockZoneSkip_zonesSound _)
  | zoneTrip => exact request rfl (blockZoneTrip_zonesSound _)
  | zoneClearTrip => exact request rfl (blockZoneClearTrip_zonesSound _)
  | zoneStatus => exact request rfl fun hu => onZone_keeps hu fun _ => hu
  | zoneSetParam => exact request rfl (blockZoneSetParam_zonesSound _)
  | zoneGetParam => exact request rfl (blockZoneGetParam_zonesSound _)
  | zoneCommit => exact request rfl (blockZoneCommit_zonesSound _)
  | zoneDiscard => exact request rfl (blockZoneDiscard_zonesSound _)
  | sensorSet => exact request rfl (blockSensorSet_zonesSound _)
  | sensorRead => exact request rfl fun hu => onSensor_keeps hu fun _ => hu
  | scanSet => exact request rfl (blockScanSet_zonesSound _)
  | retry => exact execRetry_zonesSound h sound
  | unknownKind => exact execUnknownKind_zonesSound h sound
  | goodFrame => exact execGoodFrame_zonesSound h sound
  | frameCrc => exact sound.carryOut (effect := fun u => u.hunt.countLoss .crc) h fun _ hu => hu.of_same rfl rfl
  | frameLength => exact sound.carryOut (effect := fun u => u.hunt.countLoss .length) h fun _ hu => hu.of_same rfl rfl
  | frameGap => exact execFrameGap_zonesSound h sound
  | silenceTimerExpiry => exact execSilenceTimerExpiry_zonesSound h sound
  | goBack => exact execGoBack_zonesSound h sound
  | tick => exact execTick_zonesSound h sound
  | cycleStart => exact execCycleStart_zonesSound h sound
  | conversionCompletion => exact execConversionCompletion_zonesSound h sound
  | stopSample => exact execStopSample_zonesSound h sound
  | receivedByte => exact execReceivedByte_zonesSound h sound
  | frameSent =>
    cases h
    exact (sound.ofLink s.wake_sameButLink).endFrame
  | softReset => exact execSoftReset_zonesSound h sound
  | hardReset cause baud1 baud0 =>
    cases h
    exact (zonesSound_afterHardReset (rateOf baud1 baud0) (startCause cause)).of_same rfl rfl

/-- Every step keeps the zones consistent: an idle step touches the link alone. -/
theorem ZonesSound.step (h : Machine.step s = .next t) (sound : ZonesSound true s) : ZonesSound true t := by
  unfold Machine.step at h
  split at h
  · cases h
    exact sound.of_same rfl rfl
  · next rest _ =>
    have dequeued : ZonesSound true { s with pending := rest } := sound.of_same rfl rfl
    exact dequeued.exec h

end

/-- Settles O58: the seven invariants are kept together, zone by zone and row by row. -/
theorem stepsKeepTheZonesConsistent : Obligations.StepsKeepTheZonesConsistent :=
  fun s t h causes record stops outputs restricted records trims =>
    (zonesSound_iff t).1
      (ZonesSound.step h ((zonesSound_iff s).2 ⟨causes, record, stops, outputs, restricted, records, trims⟩))

end Sys2Proof.Machine
end

section
/-!
The expiry of the silence timer (R62, R192): what it makes of a zone and of the link.
-/

namespace Sys2Proof.Machine

/-! ## A zone that the expiry reaches -/

/-- The expiry moves the zone's record alone (R62). -/
theorem linkHeld_eq (x : Zone) : linkHeld x = { x with zr := x.zr.holdFor .link } := by
  unfold linkHeld ZoneRec.holdFor
  cases state : x.zr.state <;> simp [Causes.only, Causes.union, Causes.none, targetFrom, state]

/-- What the expiry reports of a zone reads its record and its live parameters alone (R48). -/
theorem linkReports_congr {x y : Zone} (zr : y.zr = x.zr) (live : y.live = x.live) (z : ZoneId) :
    linkReports z y = linkReports z x := by
  simp only [linkReports, stateReports, linkHeld_eq, zr, live]

/-- No zone leaves its program by being held. -/
theorem leavesSlot_linkHeld (x : Zone) (k : SlotId) : leavesSlot x (linkHeld x) k = false := by
  unfold leavesSlot
  cases activity : x.zr.state.isActive with
  | false => rfl
  | true => simp [linkHeld_eq, (ZoneRec.holdFor_held activity .link).1]

theorem State.holdForLink_reaches (s : State) (z : ZoneId) :
    Reaches s (s.holdForLink z) z (linkHeld (s.zone z)) (linkReports z (s.zone z)) := by
  rw [State.holdForLink_eq]
  refine ⟨fun y => ?_, fun k => ?_, rfl, ⟨rfl, rfl, rfl, rfl, rfl, rfl, rfl⟩⟩
  · exact State.zone_setZone s z y (linkHeld (s.zone z))
  · rw [leavesSlot_linkHeld]
    rfl

theorem State.holdForLink_store (s : State) (z : ZoneId) : (s.holdForLink z).store = s.store := by
  rw [State.holdForLink_eq]
  rfl

/-- Zones held one after the other keep the program store. -/
theorem State.holdZones_store (s : State) (zs : List ZoneId) : (zs.foldl State.holdForLink s).store = s.store :=
  List.foldlRecOn (motive := fun u : State => u.store = s.store) _ _ rfl
    fun u same z _ => (u.holdForLink_store z).trans same

/-! ## The link -/

/-- The link as the expiry finds it, but LOST and with the timer stopped (R192). -/
def Link.dropped (l : Link) : Link := { l with connected := false, silence := none }

theorem State.loseLink_link {s : State} {timeout : Nat} (running : s.link.silence = some timeout) :
    s.loseLink.link = s.link.dropped.submit (.linkLost timeout) := by
  rw [State.loseLink_some running]
  rfl

theorem State.loseLink_sameButLink (s : State) : SameButLink s s.loseLink := by
  unfold State.loseLink
  split <;> simp [SameButLink, SamePlant]

/-! ## The row -/

theorem exec_silenceTimerExpiry_stopped {s : State} (stopped : s.link.silence = none) (order : List Nat) :
    exec (.silenceTimerExpiry order) s = .next s.wake := by
  have idle : s.wake.link.silence = none := by simpa using stopped
  exact State.carryOut_same (effect := fun s => if s.link.silence = none then s else _) (if_pos idle)

theorem exec_silenceTimerExpiry_running {s : State} {timeout : Nat} (running : s.link.silence = some timeout)
    {zs : List ZoneId} (all : zs.Perm allZones) :
    exec (.silenceTimerExpiry (zs.map Fin.val)) s = .next (zs.foldl State.holdForLink s.wake.loseLink).wake := by
  have runs : s.wake.link.silence ≠ none := by simp [running]
  simp only [exec, execSilenceTimerExpiry, State.carryOut, if_neg runs, orderOf_of_perm all]

/-- Settles O41: the expiry at the link, and then the zones one after the other. -/
theorem silenceHoldsTheZones : Obligations.SilenceHoldsTheZones := by
  refine ⟨fun s order stopped => ?_, fun s zs timeout all running => ?_⟩
  · rw [chosen_eq]
    exact exec_silenceTimerExpiry_stopped stopped order
  have lostLink : s.wake.loseLink.link = s.wake.link.dropped.submit (.linkLost timeout) :=
    State.loseLink_link (by simpa using running)
  have others : SameButLink s s.wake.loseLink := by
    simpa [SameButLink, SamePlant] using s.wake.loseLink_sameButLink
  obtain ⟨storeLost, zonesLost, deviceLost, ⟨sensorsLost, scanLost, stopLost, modulatorLost⟩, pendingLost⟩ := others
  have zoneLost := (s.zones_eq_iff s.wake.loseLink).1 zonesLost
  obtain ⟨zone, -, link, ⟨-, sensors, scan, stop, modulator, device, pending⟩⟩ :=
    foldl_reachesAll (g := fun z x => (linkHeld x, linkReports z x)) State.holdForLink_reaches
      (all.nodup_iff.2 allZones_nodup) s.wake.loseLink
  simp only [zoneLost] at zone link
  have store := (s.wake.loseLink.holdZones_store zs).trans storeLost
  have run := exec_silenceTimerExpiry_running running all
  generalize zs.foldl State.holdForLink s.wake.loseLink = t at *
  have submitted : t.link = (.linkLost timeout :: zs.flatMap (fun z => linkReports z (s.zone z))).foldl Link.submit
      s.wake.link.dropped := by rw [link, lostLink, List.foldl_cons]
  obtain ⟨rate, receiver, rxQueue, awaitsReset, retry, replies, tx, runCount, resend, connected, silence, txd⟩ :=
    (Link.foldl_submit_onlyReports s.wake.link.dropped
      (.linkLost timeout :: zs.flatMap (fun z => linkReports z (s.zone z)))).keeps
  have same : s.link.ReportsEq s.wake.link.dropped := by simp [Link.ReportsEq, Link.dropped]
  have reports := same.foldl (.linkLost timeout :: zs.flatMap (fun z => linkReports z (s.zone z)))
  simp only [← submitted] at rate receiver rxQueue awaitsReset retry replies tx runCount resend connected silence txd
  rw [← submitted] at reports
  refine ⟨t.wake, run, ?_, ?_, fun z => ?_, reportsOf_wake reports, ?_, ?_, ?_, ?_, ?_,
    transmitterServed_of_wake tx runCount txd, ?_, ?_, ?_, ?_⟩
  · simp [connected, Link.dropped]
  · simp [silence, Link.dropped]
  · rw [State.wake_zone, zone z, if_pos (all.mem_iff.2 (mem_allZones z))]
  · simp [rate, Link.dropped]
  · simp [receiver, Link.dropped]
  · simp [SameQueues, rxQueue, replies, retry, Link.dropped]
  · simp [awaitsReset, Link.dropped]
  · simp [resend, Link.dropped]
  · simpa using store
  · simpa using device.trans deviceLost
  · simp [SamePlant, sensors, scan, stop, modulator, sensorsLost, scanLost, stopLost, modulatorLost]
  · simpa using pending.trans pendingLost

end Sys2Proof.Machine
end

section
/-!
SUPPORT. What falls at a cycle start, thing by thing (R62, R131 to R133, R171, R191, R192): the order of its events, the
device commit and the counter, and a boundary as the zones before it have left the pool.
-/

namespace Sys2Proof.Machine

/-! ## The order of the events -/

section
variable {order done rest : List CycleEvent} {e : CycleEvent} {z : ZoneId}

/-- An event falls once: it is not among those before or after it. -/
theorem once_of_nodup (nodup : (done ++ e :: rest).Nodup) : e ∉ done ∧ e ∉ rest := by
  rw [List.nodup_middle, List.nodup_cons, List.mem_append, not_or] at nodup
  exact nodup.1

theorem CycleOrder.boundaries_perm (h : CycleOrder order) : (order.filterMap boundaryOf).Perm allZones := by
  have plain : (CycleEvent.start :: allZones.map .boundary).filterMap boundaryOf = allZones := by decide
  have both : ((CycleEvent.start :: allZones.map .boundary) ++ (CycleEvent.expiry :: allZones.map .hold)).filterMap
      boundaryOf = allZones := by decide
  exact h.1.elim (fun p => plain ▸ p.filterMap boundaryOf) (fun p => both ▸ p.filterMap boundaryOf)

@[simp] theorem boundaryOf_eq_some : boundaryOf e = some z ↔ e = .boundary z := by
  cases e <;> simp [boundaryOf, eq_comm]

theorem mem_boundaries : z ∈ done.filterMap boundaryOf ↔ .boundary z ∈ done := by
  simp [List.mem_filterMap]

theorem CycleOrder.boundary_mem (h : CycleOrder order) (z : ZoneId) : .boundary z ∈ order :=
  mem_boundaries.1 (h.boundaries_perm.mem_iff.2 (mem_allZones z))

/-- What stands before an element that comes once. -/
theorem takeWhile_ne {α : Type} [DecidableEq α] {a : α} {l l' : List α} (new : a ∉ l) :
    (l ++ a :: l').takeWhile (fun b => decide (b ≠ a)) = l := by
  have others : ∀ b ∈ l, decide (b ≠ a) = true := fun b hb => decide_eq_true (ne_of_mem_of_not_mem hb new)
  rw [List.takeWhile_append_of_pos others, List.takeWhile_cons_of_neg (by simp), List.append_nil]

/-- The expiry reaches a zone first where its hold is among the events before the boundary. -/
theorem heldFirst_eq (nodup : (done ++ .boundary z :: rest).Nodup) :
    heldFirst (done ++ .boundary z :: rest) z = decide (.hold z ∈ done) := by
  unfold heldFirst
  rw [takeWhile_ne (once_of_nodup nodup).1]
  exact List.contains_eq_mem _ _

/-- Without the expiry's events an order is one all the same. -/
theorem CycleOrder.filter_isLink (h : CycleOrder order) : CycleOrder (order.filter (fun e => !e.isLink)) := by
  have plain : (CycleEvent.start :: allZones.map .boundary).filter (fun e => !e.isLink)
      = .start :: allZones.map .boundary := by decide
  have both : ((CycleEvent.start :: allZones.map .boundary) ++ (CycleEvent.expiry :: allZones.map .hold)).filter
      (fun e => !e.isLink) = .start :: allZones.map .boundary := by decide
  refine ⟨.inl (h.1.elim (fun p => plain ▸ p.filter _) (fun p => both ▸ p.filter _)), fun z earlier later split => ?_,
    fun z earlier later split => ?_⟩
  · obtain ⟨front, back, rfl, kept, last⟩ := List.filter_eq_append_iff.1 split
    obtain ⟨between, after, rfl, none, -⟩ := List.filter_eq_cons_iff.1 last
    have first := h.2.1 z (front ++ between) after (by simp)
    rw [← kept, List.mem_filter]
    rcases List.mem_append.1 first with before | dropped
    · exact ⟨before, rfl⟩
    · exact absurd rfl (none _ dropped)
  · have kept : CycleEvent.hold z ∈ order.filter (fun e => !e.isLink) := by rw [split]; simp
    exact absurd (List.mem_filter.1 kept).2 nofun

end

/-! ## The cycle start itself -/

section
variable (s : State)

/-- The records that a cycle start leaves of the device and of the modulator (R131, R171). -/
theorem State.beginCycle_device :
    s.beginCycle.device = { live := nextDevice s, staged := s.device.staged, pending := false } := by
  unfold State.beginCycle State.applyDevice nextDevice
  cases pending : s.device.pending with
  | true => rfl
  | false =>
    have same : s.device = { live := s.device.live, staged := s.device.staged, pending := false } := by
      rw [← pending]
    exact same

theorem State.beginCycle_modulator :
    s.beginCycle.modulator = { counter := counterAfter s, tick := 0, fresh := false } := by
  have device : s.applyDevice.device.live = nextDevice s := congrArg Device.live s.beginCycle_device
  have modulator : s.applyDevice.modulator = s.modulator := by
    unfold State.applyDevice
    split <;> rfl
  unfold State.beginCycle nextCounter counterAfter
  simp only [device, modulator, Bool.or_eq_true, decide_eq_true_eq]

/-- A new device record does to the link what R191 says. -/
theorem Link.newDevice_relinked (pending : s.device.pending = true) (l : Link) :
    l.newDevice s.device.live s.device.staged = relinked s l := by
  unfold Link.newDevice relinked nextDevice silenceFrom
  simp only [pending, if_true]
  by_cases off : s.device.live.ack = true ∧ s.device.staged.ack = false
  · simp only [off, and_self, if_true, and_comm (a := s.device.live.timeout ≠ s.device.staged.timeout)]
    split <;> rfl
  · by_cases on : s.device.live.ack = false ∧ s.device.staged.ack = true
    · simp only [on, and_self, if_true, and_comm (a := s.device.live.timeout ≠ s.device.staged.timeout)]
      split <;> rfl
    · simp only [off, on, if_false, and_comm (a := s.device.live.timeout ≠ s.device.staged.timeout)]
      split <;> rfl

theorem relinked_settled (settled : s.device.pending = false) (l : Link) : relinked s l = l := by
  simp [relinked, nextDevice, settled]

theorem State.beginCycle_link :
    s.beginCycle.link = (if s.device.pending then [.committed none .applied] else []).foldl Link.submit
      (relinked s s.link) := by
  unfold State.beginCycle State.applyDevice
  cases pending : s.device.pending with
  | true =>
    rw [← Link.newDevice_relinked s pending]
    rfl
  | false =>
    rw [relinked_settled s pending]
    rfl

theorem State.beginCycle_keeps :
    s.beginCycle.zones = s.zones ∧ s.beginCycle.store = s.store ∧ s.beginCycle.sensors = s.sensors
    ∧ s.beginCycle.scan = s.scan ∧ s.beginCycle.stop = s.stop ∧ s.beginCycle.pending = s.pending := by
  unfold State.beginCycle State.applyDevice
  split <;> exact ⟨rfl, rfl, rfl, rfl, rfl, rfl⟩

end

/-! ## A zone's boundary -/

section
variable {s t u : State} {order : List CycleEvent} {before : List ZoneId} {z : ZoneId}

@[simp] theorem linkHeld_live (x : Zone) : (linkHeld x).live = x.live := by rw [linkHeld_eq]
@[simp] theorem linkHeld_staged (x : Zone) : (linkHeld x).staged = x.staged := by rw [linkHeld_eq]
@[simp] theorem linkHeld_pending (x : Zone) : (linkHeld x).pending = x.pending := by rw [linkHeld_eq]
@[simp] theorem linkHeld_share (x : Zone) : (linkHeld x).share = x.share := by rw [linkHeld_eq]
@[simp] theorem linkHeld_ctl (x : Zone) : (linkHeld x).ctl = x.ctl := by rw [linkHeld_eq]

/-- A zone keeps its program while it is held. -/
@[simp] theorem linkHeld_active (x : Zone) : (linkHeld x).zr.active = x.zr.active := by
  rw [linkHeld_eq]
  unfold ZoneRec.holdFor
  cases x.zr.state <;> rfl

/-- The expiry and a commit are independent of each other. -/
theorem committed_linkHeld (x : Zone) : committed (linkHeld x) = linkHeld (committed x) := by
  rw [linkHeld_eq, linkHeld_eq]
  unfold committed
  split <;> rfl

theorem foundAt_cases (s : State) (order : List CycleEvent) (z : ZoneId) :
    foundAt s order z = s.zone z ∨ foundAt s order z = linkHeld (s.zone z) := by
  unfold foundAt
  split
  · exact .inr rfl
  · exact .inl rfl

/-- What a boundary overwrites or does not see is all that the expiry moves. -/
theorem committed_foundAt (s : State) (order : List CycleEvent) (z : ZoneId) :
    committed (foundAt s order z) = { committed (s.zone z) with zr := (foundAt s order z).zr } := by
  rcases foundAt_cases s order z with found | found
  · have same : committed (s.zone z) = { committed (s.zone z) with zr := (committed (s.zone z)).zr } := rfl
    rw [committed_zr] at same
    rw [found]
    exact same
  · rw [found, committed_linkHeld, linkHeld_eq, linkHeld_eq, committed_zr]

/-- A state within a cycle start that a zone's boundary comes to: the device commit is done, and what the boundary reads
is as the statement names it. -/
structure ReadyFor (s t u : State) (order : List CycleEvent) (before : List ZoneId) (z : ZoneId) : Prop where
  live : u.device.live = nextDevice s
  sensors : u.sensors = s.sensors
  segs : ∀ k, (u.slot k).segs = (s.slot k).segs
  found : u.zone z = foundAt s order z
  counted : ∀ y, y ≠ z → (u.zone y).counted
    = if y ∈ before then (committed (s.zone y)).live.wr else (s.zone y).counted
  holding : ∀ y, y ≠ z → (u.zone y).share.holding
    = if y ∈ before then (t.zone y).share.holding else (s.zone y).share.holding

theorem ReadyFor.committed_eq (h : ReadyFor s t u order before z) :
    committed (u.zone z) = { committed (s.zone z) with zr := (u.zone z).zr } := by
  rw [h.found, committed_foundAt]

theorem ReadyFor.active (h : ReadyFor s t u order before z) : (u.zone z).zr.active = (s.zone z).zr.active := by
  rw [h.found]
  rcases foundAt_cases s order z with found | found <;> simp [found]

/-- The executor's stage reads what the statement says it reads (R45, R47, R54, R166). -/
theorem ReadyFor.env (h : ReadyFor s t u order before z) : (u.stagingStage z).env z = envAt s z := by
  obtain ⟨-, -, -, ⟨-, sensors, -, -, -, device, -⟩⟩ := u.stagingStage_alters z
  have slot (k : SlotId) : ((u.stagingStage z).slot k).segs = (s.slot k).segs := by
    rw [(u.stagingStage_alters z).slot, h.segs]
  have sensor (i : SensorId) : (u.stagingStage z).sensor i = s.sensor i :=
    (s.sensors_eq_iff _).1 (sensors.trans h.sensors) i
  have live : ((u.stagingStage z).zone z).live = (committed (s.zone z)).live := by
    rw [State.stagingStage_zone, if_pos rfl, h.committed_eq]
  have active : ((u.stagingStage z).zone z).zr.active = (committed (s.zone z)).zr.active := by
    rw [State.stagingStage_zone, if_pos rfl, committed_zr, committed_zr, h.active]
  unfold State.env envAt State.feedbackUsable State.feedbackValue
  simp only [live, active, slot, sensor, device, h.live]
  congr 1
  · cases (committed (s.zone z)).live.feedback with
    | none => rfl
    | some i => exact Bool.eq_iff_iff.2 (by simp [SensorStatus.usable_iff])

theorem ReadyFor.update (h : ReadyFor s t u order before z) : u.boundaryUpdate z = updateAt s order z := by
  unfold State.boundaryUpdate updateAt
  rw [h.env, h.found]

theorem ReadyFor.demand (h : ReadyFor s t u order before z) : u.boundaryDemand z = demandAt s order z := by
  have ctl : (u.zone z).ctl = (s.zone z).ctl := by
    rw [h.found]
    rcases foundAt_cases s order z with found | found <;> simp [found]
  unfold State.boundaryDemand demandAt
  rw [h.env, h.update, ctl]

/-- The pool at the governor's stage is as the boundaries before it have left it (R149, R151, R152). -/
theorem ReadyFor.free (h : ReadyFor s t u order before z) : (u.stagingStage z).freeFor z = freeAt s t before z := by
  have zone := u.stagingStage_zone z
  have counted (y : ZoneId) : ((u.stagingStage z).zone y).counted
      = if y ∈ before ∨ y = z then (committed (s.zone y)).live.wr else (s.zone y).counted := by
    rw [zone]
    by_cases own : y = z
    · simp [own, Zone.counted, h.committed_eq]
    · simp [own, h.counted y own]
  have holding (y : ZoneId) : (if y = z then 0 else ((u.stagingStage z).zone y).share.holding)
      = if y = z then 0 else if y ∈ before then (t.zone y).share.holding else (s.zone y).share.holding := by
    by_cases own : y = z
    · simp [own]
    · simp [own, zone, h.holding y own]
  have device : (u.stagingStage z).device.live = nextDevice s := by
    rw [(u.stagingStage_alters z).rest.device, h.live]
  simp only [State.freeFor, State.countedReserves, counted, holding, device]
  rfl

/-- The grant and the draw of a boundary at a cycle start (R150, R151). -/
def grantAt (s t : State) (order : List CycleEvent) (before : List ZoneId) (z : ZoneId) : Nat × Nat :=
  grantOf (nextDevice s).governor (committed (s.zone z)).live (freeAt s t before z) (demandAt s order z).demand

/-- A zone as its boundary at a cycle start leaves it, the pin not yet driven (R53, R75, R134, R150, R155, R166). -/
def takenZone (s t : State) (order : List CycleEvent) (before : List ZoneId) (z : ZoneId) : Zone :=
  { committed (s.zone z) with
    zr := (updateAt s order z).zr
    ctl := { acc := (demandAt s order z).acc, lastDemand := (demandAt s order z).demand,
             lastGrant := (grantAt s t order before z).1
             trimmedLast := decide ((grantAt s t order before z).1 < (demandAt s order z).demand)
             lastRegime := (demandAt s order z).kind }
    frame := loadFrame (grantAt s t order before z).1 (committed (s.zone z)).live.phase
    share := { holding := (grantAt s t order before z).2
               trimmed := decide ((grantAt s t order before z).1 < (demandAt s order z).demand) } }

theorem ReadyFor.grant (h : ReadyFor s t u order before z) : u.boundaryGrant z = grantAt s t order before z := by
  unfold State.boundaryGrant grantAt State.grantFor
  rw [h.demand, h.free, (u.stagingStage_alters z).rest.device, h.live, State.stagingStage_zone, if_pos rfl,
    h.committed_eq]

theorem ReadyFor.zone (h : ReadyFor s t u order before z) : u.boundaryZone z = takenZone s t order before z := by
  unfold State.boundaryZone takenZone
  rw [h.update, h.demand, h.grant, h.committed_eq]

/-- The zone that its boundary has left is the one that the statement spells out (R150, R151). -/
theorem boundaryTaken_of_takenZone (pin : Bool)
    (taken : t.zone z = thenHeld order z { takenZone s t order before z with pin := pin }) :
    BoundaryTaken s t order before z := by
  have shown : (t.zone z).pin = pin := by
    rw [taken]
    unfold thenHeld
    split
    · rw [linkHeld_eq]
    · rfl
  unfold BoundaryTaken
  dsimp only
  rw [shown, taken]
  congr 1
  by_cases governed : (nextDevice s).governor = true ∧ 0 < (committed (s.zone z)).live.weight
  · have grant : grantAt s t order before z = _ := grantOf_governed (freeAt s t before z) _ governed.1 governed.2
    simp only [takenZone, grant, if_pos governed]
    rfl
  · have off : (nextDevice s).governor = false ∨ (committed (s.zone z)).live.weight = 0 := by
      rcases not_and_or.1 governed with off | weightless
      · exact .inl (by simpa using off)
      · exact .inr (by omega)
    have grant : grantAt s t order before z = _ := grantOf_ungoverned (freeAt s t before z) _ off
    simp only [takenZone, grant, if_neg governed]
    rfl

end

end Sys2Proof.Machine
end

section
/-!
CYCLE_START (R53, R62, R75, R130 to R134, R150 to R152, R166, R171, R191, R192): what the events of a cycle start have
made of the zones, the programs in use and the link, after each of them in turn.
-/

namespace Sys2Proof.Machine

/-! ## The link at the end of a part of the order -/

/-- The line, the frames waiting on it and the transmitter are as they were. -/
structure Link.KeepsFrames (l l' : Link) : Prop where
  rate : l'.rate = l.rate
  receiver : l'.receiver = l.receiver
  awaitsReset : l'.awaitsReset = l.awaitsReset
  rxQueue : l'.rxQueue = l.rxQueue
  retry : l'.retry = l.retry
  replies : l'.replies = l.replies
  tx : l'.tx = l.tx
  runCount : l'.runCount = l.runCount
  txd : l'.txd = l.txd

theorem Link.KeepsFrames.trans {a b c : Link} (h : a.KeepsFrames b) (k : b.KeepsFrames c) : a.KeepsFrames c :=
  ⟨k.rate.trans h.rate, k.receiver.trans h.receiver, k.awaitsReset.trans h.awaitsReset, k.rxQueue.trans h.rxQueue,
    k.retry.trans h.retry, k.replies.trans h.replies, k.tx.trans h.tx, k.runCount.trans h.runCount, k.txd.trans h.txd⟩

/-- The link after the events `done` of a cycle start, but for its report queue. -/
structure LinkSoFar (s : State) (done : List CycleEvent) (l : Link) : Prop where
  connected : l.connected = if .expiry ∈ done then false else s.link.connected
  silence : l.silence = if .expiry ∈ done then none
    else if .start ∈ done then (relinked s s.link).silence else s.link.silence
  resend : l.resend = if .start ∈ done then (relinked s s.link).resend else s.link.resend
  frames : s.link.KeepsFrames l

/-- The report queue after the events `done` of a cycle start (R171, R191). -/
def queueSoFar (s t : State) (order done : List CycleEvent) : Link :=
  done.foldl (fun l e => (cycleReports s t order e).foldl Link.submit (if e = .start then relinked s l else l)) s.link

section
variable {s t : State} {order done : List CycleEvent} {l l' : Link}

theorem LinkSoFar.submitAll (h : LinkSoFar s done l) (rs : List Report) :
    LinkSoFar s done (rs.foldl Link.submit l) := by
  obtain ⟨rate, receiver, rxQueue, awaitsReset, retry, replies, tx, runCount, resend, connected, silence, txd⟩ :=
    (Link.foldl_submit_onlyReports l rs).keeps
  exact ⟨connected.trans h.connected, silence.trans h.silence, resend.trans h.resend,
    h.frames.trans ⟨rate, receiver, awaitsReset, rxQueue, retry, replies, tx, runCount, txd⟩⟩

/-- An event that is neither the cycle start nor the expiry submits reports alone. -/
theorem LinkSoFar.other (h : LinkSoFar s done l) {e : CycleEvent} (notStart : e ≠ .start) (notExpiry : e ≠ .expiry)
    (rs : List Report) : LinkSoFar s (done ++ [e]) (rs.foldl Link.submit l) := by
  obtain ⟨connected, silence, resend, frames⟩ := h.submitAll rs
  have start : .start ∈ done ++ [e] ↔ .start ∈ done := by simp [notStart.symm]
  have expiry : .expiry ∈ done ++ [e] ↔ .expiry ∈ done := by simp [notExpiry.symm]
  constructor <;> simpa only [start, expiry]

/-- The expiry stops the timer, and the commit of the cycle start does not restart it while the link is LOST (R191,
R192). -/
theorem LinkSoFar.start (h : LinkSoFar s done l) (first : .start ∉ done) (rs : List Report) :
    LinkSoFar s (done ++ [.start]) (rs.foldl Link.submit (relinked s l)) := by
  obtain ⟨connected, silence, resend, frames⟩ := h
  refine LinkSoFar.submitAll ⟨?_, ?_, ?_, ?_⟩ rs
  · simpa [relinked] using connected
  · by_cases lost : CycleEvent.expiry ∈ done
    · simp [relinked, connected, silence, lost]
    · simp [relinked, connected, silence, lost, first]
  · simp [relinked, resend, first]
  · exact frames.trans ⟨rfl, rfl, rfl, rfl, rfl, rfl, rfl, rfl, rfl⟩

theorem LinkSoFar.expiry (h : LinkSoFar s done l) (rs : List Report) :
    LinkSoFar s (done ++ [.expiry]) (rs.foldl Link.submit l.dropped) := by
  obtain ⟨-, -, resend, frames⟩ := h
  refine LinkSoFar.submitAll ⟨?_, ?_, ?_, ?_⟩ rs
  · simp [Link.dropped]
  · simp [Link.dropped]
  · simpa [Link.dropped] using resend
  · exact frames.trans ⟨rfl, rfl, rfl, rfl, rfl, rfl, rfl, rfl, rfl⟩

theorem queueSoFar_concat (e : CycleEvent) :
    queueSoFar s t order (done ++ [e]) = (cycleReports s t order e).foldl Link.submit
      (if e = .start then relinked s (queueSoFar s t order done) else queueSoFar s t order done) := by
  simp [queueSoFar]

/-- What a new device record does to the report queue depends on the queue alone (R191). -/
theorem Link.ReportsEq.relinked (h : l.ReportsEq l') : (relinked s l).ReportsEq (relinked s l') := by
  obtain ⟨reports, nextSeq, lost⟩ := h
  simp [Link.ReportsEq, Machine.relinked, reports, nextSeq, lost]

/-- Away from the cycle start the reports follow one another. -/
theorem foldl_queue_of_no_start {events : List CycleEvent} (none : .start ∉ events) (l : Link) :
    events.foldl (fun l e => (cycleReports s t order e).foldl Link.submit (if e = .start then relinked s l else l)) l
      = (events.flatMap (cycleReports s t order)).foldl Link.submit l := by
  induction events generalizing l with
  | nil => rfl
  | cons e events ih =>
    obtain ⟨notStart, none⟩ := not_or.1 (mt List.mem_cons.2 none)
    rw [List.foldl_cons, ih none, List.flatMap_cons, List.foldl_append, if_neg (Ne.symm notStart)]

/-- The report queue after the whole order, in the statement's words. -/
theorem queueSoFar_whole {early late : List CycleEvent} (before : .start ∉ early) (after : .start ∉ late) :
    queueSoFar s t order (early ++ .start :: late)
      = ((.start :: late).flatMap (cycleReports s t order)).foldl Link.submit
          (relinked s ((early.flatMap (cycleReports s t order)).foldl Link.submit s.link)) := by
  rw [queueSoFar, List.foldl_append, foldl_queue_of_no_start before, List.foldl_cons, if_pos rfl,
    foldl_queue_of_no_start after, List.flatMap_cons, List.foldl_append]

end

/-! ## The zones at the end of a part of the order -/

/-- The zones whose boundaries are among these events, in their order (R132). -/
def dueIn (s : State) (events : List CycleEvent) : List ZoneId :=
  (events.filterMap boundaryOf).filter (fun z => decide ((s.zone z).live.frameOffset = counterAfter s))

/-- The zones that have their boundaries before a zone has its own. -/
def dueBefore (s : State) (order : List CycleEvent) (z : ZoneId) : List ZoneId :=
  (dueIn s order).takeWhile (fun y => decide (y ≠ z))

/-- A zone as its place in the cycle start leaves it: at its boundary, or with its frame position one on (R133). -/
def placedZone (s t : State) (order : List CycleEvent) (z : ZoneId) : Zone :=
  if (s.zone z).live.frameOffset = counterAfter s then takenZone s t order (dueBefore s order z) z
  else (s.zone z).passCycle

/-- A zone after the events `done`: the expiry shows in it unless its boundary has come later and seen it (R62). -/
def zoneSoFar (s t : State) (order done : List CycleEvent) (z : ZoneId) : Zone :=
  let x := if .boundary z ∈ done then placedZone s t order z else s.zone z
  if .hold z ∈ done
      ∧ ¬(.boundary z ∈ done ∧ (s.zone z).live.frameOffset = counterAfter s ∧ heldFirst order z = true) then
    linkHeld x
  else x

/-- The zones that have released a slot's program at their boundaries among these events (R18, R40). -/
def releasedIn (s : State) (order done : List CycleEvent) (k : SlotId) : Nat :=
  (done.filterMap boundaryOf).countP (fun z =>
    decide ((s.zone z).live.frameOffset = counterAfter s) && (updateAt s order z).released
      && decide ((s.zone z).zr.active = some k))

section
variable {s t : State} {order done rest : List CycleEvent} {z : ZoneId}

theorem mem_dueIn {y : ZoneId} :
    y ∈ dueIn s done ↔ .boundary y ∈ done ∧ (s.zone y).live.frameOffset = counterAfter s := by
  rw [dueIn, List.mem_filter, mem_boundaries, decide_eq_true_iff]

theorem dueIn_split (due : (s.zone z).live.frameOffset = counterAfter s) :
    dueIn s (done ++ .boundary z :: rest) = dueIn s done ++ z :: dueIn s rest := by
  simp [dueIn, boundaryOf, due]

/-- The boundaries before a zone's own are those of the events before it. -/
theorem dueBefore_eq (nodup : (done ++ .boundary z :: rest).Nodup)
    (due : (s.zone z).live.frameOffset = counterAfter s) :
    dueBefore s (done ++ .boundary z :: rest) z = dueIn s done := by
  have new : z ∉ dueIn s done := fun taken => (once_of_nodup nodup).1 (mem_dueIn.1 taken).1
  rw [dueBefore, dueIn_split due, takeWhile_ne new]

/-- The boundaries before a zone's own, wherever the list of all boundaries has it. -/
theorem CycleOrder.dueBefore_of_split (h : CycleOrder order) {before after : List ZoneId}
    (split : dueIn s order = before ++ z :: after) : dueBefore s order z = before := by
  have once : (dueIn s order).Nodup := (h.boundaries_perm.nodup_iff.2 allZones_nodup).filter _
  rw [split, List.nodup_middle, List.nodup_cons, List.mem_append, not_or] at once
  rw [dueBefore, split, takeWhile_ne once.1.1]

/-- The expiry and a passing cycle start are independent of each other. -/
theorem linkHeld_passCycle (x : Zone) : linkHeld x.passCycle = (linkHeld x).passCycle := by
  rw [linkHeld_eq, linkHeld_eq]
  rfl

/-- An event of another zone, or of none, leaves the zone. -/
theorem zoneSoFar_other {e : CycleEvent} (notBoundary : e ≠ .boundary z) (notHold : e ≠ .hold z) :
    zoneSoFar s t order (done ++ [e]) z = zoneSoFar s t order done z := by
  simp [zoneSoFar, notBoundary.symm, notHold.symm]

/-- Before its place in the cycle start a zone is as it was, or held. -/
theorem zoneSoFar_unplaced (waits : .boundary z ∉ done) :
    zoneSoFar s t order done z = if .hold z ∈ done then linkHeld (s.zone z) else s.zone z := by
  simp [zoneSoFar, waits]

/-- A zone comes to its boundary as the statement finds it (R62). -/
theorem zoneSoFar_found (nodup : (done ++ .boundary z :: rest).Nodup) :
    zoneSoFar s t (done ++ .boundary z :: rest) done z = foundAt s (done ++ .boundary z :: rest) z := by
  rw [zoneSoFar_unplaced (once_of_nodup nodup).1, foundAt, heldFirst_eq nodup]
  simp only [decide_eq_true_eq]

theorem zoneSoFar_unheld (free : .hold z ∉ done) :
    zoneSoFar s t order done z = if .boundary z ∈ done then placedZone s t order z else s.zone z := by
  simp [zoneSoFar, free]

/-- The zone after its boundary. -/
theorem zoneSoFar_taken (nodup : (done ++ .boundary z :: rest).Nodup)
    (due : (s.zone z).live.frameOffset = counterAfter s) :
    zoneSoFar s t (done ++ .boundary z :: rest) (done ++ [.boundary z]) z
      = takenZone s t (done ++ .boundary z :: rest) (dueIn s done) z := by
  have placed : placedZone s t (done ++ .boundary z :: rest) z
      = takenZone s t (done ++ .boundary z :: rest) (dueIn s done) z := by
    rw [placedZone, if_pos due, dueBefore_eq nodup due]
  simp [zoneSoFar, placed, heldFirst_eq nodup, due]

/-- The zone after a cycle start that is not its boundary. -/
theorem zoneSoFar_passed (nodup : (done ++ .boundary z :: rest).Nodup)
    (notDue : (s.zone z).live.frameOffset ≠ counterAfter s) :
    zoneSoFar s t order (done ++ [.boundary z]) z = (zoneSoFar s t order done z).passCycle := by
  rw [zoneSoFar_unplaced (once_of_nodup nodup).1]
  by_cases held : CycleEvent.hold z ∈ done
  · simp [zoneSoFar, placedZone, notDue, held, linkHeld_passCycle]
  · simp [zoneSoFar, placedZone, notDue, held]

/-- Where its boundary has been taken, a zone's hold comes after it. -/
theorem heldFirst_of_placed (nodup : (done ++ .hold z :: rest).Nodup) (placed : .boundary z ∈ done) :
    heldFirst (done ++ .hold z :: rest) z = false := by
  have new := (once_of_nodup nodup).1
  obtain ⟨first, second, rfl⟩ := List.append_of_mem placed
  simp only [List.append_assoc, List.cons_append] at nodup ⊢
  rw [heldFirst_eq nodup]
  exact decide_eq_false fun held => new (List.mem_append_left _ held)

/-- Where its boundary has still to be taken, a zone's hold comes first. -/
theorem heldFirst_of_unplaced (waits : .boundary z ∉ done) : heldFirst (done ++ .hold z :: rest) z = true := by
  have others : ∀ e ∈ done, decide (e ≠ .boundary z) = true :=
    fun e he => decide_eq_true (ne_of_mem_of_not_mem he waits)
  rw [heldFirst, List.takeWhile_append_of_pos others, List.takeWhile_cons_of_pos (by simp)]
  simp

/-- The zone after its hold, which its boundary has not seen. -/
theorem zoneSoFar_held (nodup : (done ++ .hold z :: rest).Nodup) :
    zoneSoFar s t (done ++ .hold z :: rest) (done ++ [.hold z]) z
      = linkHeld (zoneSoFar s t (done ++ .hold z :: rest) done z) := by
  rw [zoneSoFar_unheld (once_of_nodup nodup).1]
  by_cases placed : CycleEvent.boundary z ∈ done
  · simp [zoneSoFar, placed, heldFirst_of_placed nodup placed]
  · simp [zoneSoFar, placed]

/-- What a zone's hold reports is what the statement reads it from (R48, R62). -/
theorem cycleReports_hold (nodup : (done ++ .hold z :: rest).Nodup) :
    cycleReports s t (done ++ .hold z :: rest) (.hold z)
      = linkReports z (zoneSoFar s t (done ++ .hold z :: rest) done z) := by
  rw [zoneSoFar_unheld (once_of_nodup nodup).1]
  unfold cycleReports
  dsimp only
  by_cases placed : CycleEvent.boundary z ∈ done
  · rw [heldFirst_of_placed nodup placed, if_pos placed, placedZone]
    by_cases due : (s.zone z).live.frameOffset = counterAfter s
    · rw [if_pos ⟨due, rfl⟩, if_pos due]
      refine linkReports_congr ?_ ?_ z <;> rfl
    · rw [if_neg (fun h => due h.1), if_neg due]
      refine linkReports_congr ?_ ?_ z <;> rfl
  · rw [heldFirst_of_unplaced placed, if_neg placed, if_neg (fun h => Bool.noConfusion h.2)]

end

end Sys2Proof.Machine
end

section
/-!
CYCLE_START (R53, R62, R75, R130 to R134, R150 to R152, R166, R171, R191, R192), by induction on its events: after each
part of the order the state is what the statement says of that part.
-/

namespace Sys2Proof.Machine

/-- A state after the events `done` of a cycle start, where `t` is the state after them all. -/
structure CycleSoFar (s t : State) (order done : List CycleEvent) (u : State) : Prop where
  zone : ∀ z, u.zone z = zoneSoFar s t order done z
  slot : ∀ k, u.slot k = { s.slot k with useCount := (s.slot k).useCount - releasedIn s order done k }
  link : LinkSoFar s done u.link
  queue : (queueSoFar s t order done).ReportsEq u.link
  device : u.device = if .start ∈ done then
    { live := nextDevice s, staged := s.device.staged, pending := false } else s.device
  modulator : u.modulator = if .start ∈ done then { counter := counterAfter s, tick := 0, fresh := false }
    else s.modulator
  free : u.store.free = s.store.free
  sensors : u.sensors = s.sensors
  scan : u.scan = s.scan
  stop : u.stop = s.stop
  pending : u.pending = s.pending

/-! ## The shares of the zones taken -/

section
variable {u : State} {y : ZoneId}

theorem State.cycleZone_alters (s : State) (z : ZoneId) :
    ∃ x reports released, Alters s (s.cycleZone z) z x reports released := by
  unfold State.cycleZone
  split
  · exact ⟨_, _, _, s.boundary_alters z⟩
  · exact ⟨_, _, _, s.setZone_alters z _⟩

/-- No event but a zone's own place in the cycle start moves what it holds of the pool (R149). -/
theorem State.cycleEvent_share {e : CycleEvent} (other : e ≠ .boundary y) :
    ((u.cycleEvent e).zone y).share = (u.zone y).share := by
  cases e with
  | start =>
    obtain ⟨zones, -⟩ := u.beginCycle_keeps
    exact congrArg Zone.share ((u.zones_eq_iff _).1 zones y)
  | expiry =>
    obtain ⟨-, zones, -⟩ := u.loseLink_sameButLink
    exact congrArg Zone.share ((u.zones_eq_iff _).1 zones y)
  | boundary z =>
    obtain ⟨x, reports, released, altered⟩ := u.cycleZone_alters z
    have apart : y ≠ z := fun same => other (by rw [same])
    rw [State.cycleEvent, altered.zone, if_neg apart]
  | hold z =>
    rw [State.cycleEvent, (u.holdForLink_reaches z).zone]
    split
    · next own => rw [own, linkHeld_share]
    · rfl

theorem State.cycleEvents_share {events : List CycleEvent} (none : .boundary y ∉ events) :
    ((events.foldl State.cycleEvent u).zone y).share = (u.zone y).share := by
  induction events generalizing u with
  | nil => rfl
  | cons e events ih =>
    obtain ⟨other, none⟩ := not_or.1 (mt List.mem_cons.2 none)
    rw [List.foldl_cons, ih none, State.cycleEvent_share (Ne.symm other)]

end

/-! ## One event -/

section
variable {s t u v : State} {order done rest : List CycleEvent} {e : CycleEvent} {z : ZoneId}

theorem CycleSoFar.nothing (s t : State) (order : List CycleEvent) : CycleSoFar s t order [] s where
  zone z := by simp [zoneSoFar]
  slot k := by simp [releasedIn]
  link := ⟨by simp, by simp, by simp, ⟨rfl, rfl, rfl, rfl, rfl, rfl, rfl, rfl, rfl⟩⟩
  queue := ⟨rfl, rfl, rfl⟩
  device := by simp
  modulator := by simp
  free := rfl
  sensors := rfl
  scan := rfl
  stop := rfl
  pending := rfl

theorem releasedIn_concat (k : SlotId) :
    releasedIn s order (done ++ [e]) k = releasedIn s order done k + releasedIn s order [e] k := by
  simp [releasedIn]

/-- An event of one zone. -/
theorem CycleSoFar.reach (h : CycleSoFar s t order done u) {x : Zone} {released : Bool}
    (own : e = .boundary z ∨ e = .hold z)
    (altered : Alters u v z x (cycleReports s t order e) released)
    (zone : zoneSoFar s t order (done ++ [e]) z = x)
    (slot : ∀ k, releasedIn s order [e] k = if released && decide ((u.zone z).zr.active = some k) then 1 else 0) :
    CycleSoFar s t order (done ++ [e]) v := by
  have notStart : e ≠ .start := by rcases own with rfl | rfl <;> nofun
  have notExpiry : e ≠ .expiry := by rcases own with rfl | rfl <;> nofun
  have started : .start ∈ done ++ [e] ↔ .start ∈ done := by simp [notStart.symm]
  obtain ⟨free, sensors, scan, stop, modulator, device, pending⟩ := altered.rest
  constructor
  case zone =>
    intro y
    rw [altered.zone]
    split
    · next same => rw [same, zone]
    · next apart =>
      rw [h.zone]
      refine (zoneSoFar_other ?_ ?_).symm <;> rcases own with rfl | rfl <;> simp [Ne.symm apart]
  case slot =>
    intro k
    rw [altered.slot, h.slot, releasedIn_concat, slot, Nat.sub_sub]
  case link =>
    rw [altered.link]
    exact h.link.other notStart notExpiry _
  case queue =>
    rw [altered.link, queueSoFar_concat, if_neg notStart]
    exact h.queue.foldl _
  case device => simp only [device, h.device, started]
  case modulator => simp only [modulator, h.modulator, started]
  case free => exact free.trans h.free
  case sensors => exact sensors.trans h.sensors
  case scan => exact scan.trans h.scan
  case stop => exact stop.trans h.stop
  case pending => exact pending.trans h.pending

/-- The expiry's hold of a zone (R62). -/
theorem CycleSoFar.hold (nodup : (done ++ .hold z :: rest).Nodup)
    (h : CycleSoFar s t (done ++ .hold z :: rest) done u) :
    CycleSoFar s t (done ++ .hold z :: rest) (done ++ [.hold z]) (u.holdForLink z) := by
  obtain ⟨zone, slot, link, kept⟩ := u.holdForLink_reaches z
  have altered : Alters u (u.holdForLink z) z (linkHeld (u.zone z))
      (cycleReports s t (done ++ .hold z :: rest) (.hold z)) false := by
    refine ⟨zone, fun k => ?_, ?_, kept⟩
    · rw [slot, leavesSlot_linkHeld]
      rfl
    · rw [link, cycleReports_hold nodup, h.zone]
  refine h.reach (.inr rfl) altered ?_ fun k => rfl
  rw [zoneSoFar_held nodup, h.zone]

/-- A cycle start that is not the zone's boundary (R133). -/
theorem CycleSoFar.pass (nodup : (done ++ .boundary z :: rest).Nodup)
    (notDue : (s.zone z).live.frameOffset ≠ counterAfter s)
    (h : CycleSoFar s t (done ++ .boundary z :: rest) done u) :
    CycleSoFar s t (done ++ .boundary z :: rest) (done ++ [.boundary z]) (u.setZone z (u.zone z).passCycle) := by
  have altered : Alters u (u.setZone z (u.zone z).passCycle) z (u.zone z).passCycle
      (cycleReports s t (done ++ .boundary z :: rest) (.boundary z)) false := by
    have silent : cycleReports s t (done ++ .boundary z :: rest) (.boundary z) = [] := if_neg notDue
    rw [silent]
    exact u.setZone_alters z _
  refine h.reach (.inl rfl) altered ?_ fun k => ?_
  · rw [zoneSoFar_passed nodup notDue, h.zone]
  · simp [releasedIn, boundaryOf, notDue]

/-- What the expiry does not move of a zone is as its place in the cycle start has left it. -/
theorem zoneSoFar_of_linkHeld {α : Type} {f : Zone → α} (same : ∀ x, f (linkHeld x) = f x) :
    f (zoneSoFar s t order done z) = f (if .boundary z ∈ done then placedZone s t order z else s.zone z) := by
  simp only [zoneSoFar]
  split
  · exact same _
  · rfl

/-- The counted reserve of a zone after a part of the order (R149): a commit applied counts its live record alone. -/
theorem zoneSoFar_counted : (zoneSoFar s t order done z).counted
    = if z ∈ dueIn s done then (committed (s.zone z)).live.wr else (s.zone z).counted := by
  have placed : (placedZone s t order z).counted = if (s.zone z).live.frameOffset = counterAfter s then
      (committed (s.zone z)).live.wr else (s.zone z).counted := by
    unfold placedZone
    split
    · simp [Zone.counted, takenZone]
    · rfl
  rw [zoneSoFar_of_linkHeld (f := Zone.counted) fun x => by simp [Zone.counted]]
  simp only [mem_dueIn, ite_and]
  split
  · exact placed
  · rfl

/-- A zone whose boundary has not been taken holds what it held (R149). -/
theorem zoneSoFar_share (waits : z ∉ dueIn s done) : (zoneSoFar s t order done z).share = (s.zone z).share := by
  rw [zoneSoFar_of_linkHeld linkHeld_share]
  split
  · next placed =>
    have notDue : (s.zone z).live.frameOffset ≠ counterAfter s := fun due => waits (mem_dueIn.2 ⟨placed, due⟩)
    rw [placedZone, if_neg notDue]
    rfl
  · rfl

/-- What a boundary reads, where the shares of the zones taken are those of the state after all (R149). -/
theorem CycleSoFar.ready (nodup : (done ++ .boundary z :: rest).Nodup) (started : .start ∈ done)
    (h : CycleSoFar s t (done ++ .boundary z :: rest) done u)
    (share : ∀ y, .boundary y ∈ done → (u.zone y).share = (t.zone y).share) :
    ReadyFor s t u (done ++ .boundary z :: rest) (dueIn s done) z where
  live := by rw [h.device, if_pos started]
  sensors := h.sensors
  segs k := by rw [h.slot]
  found := by rw [h.zone, zoneSoFar_found nodup]
  counted y _ := by rw [h.zone, zoneSoFar_counted]
  holding y _ := by
    split
    · next taken => rw [share y (mem_dueIn.1 taken).1]
    · next waits =>
      rw [h.zone, zoneSoFar_share waits]

/-- A boundary with its five stages (R53, R75, R134, R150, R155, R166). -/
theorem CycleSoFar.take (nodup : (done ++ .boundary z :: rest).Nodup) (started : .start ∈ done)
    (due : (s.zone z).live.frameOffset = counterAfter s)
    (h : CycleSoFar s t (done ++ .boundary z :: rest) done u)
    (share : ∀ y, .boundary y ∈ done → (u.zone y).share = (t.zone y).share)
    (own : ((u.boundary z).zone z).share = (t.zone z).share) :
    CycleSoFar s t (done ++ .boundary z :: rest) (done ++ [.boundary z]) (u.boundary z) := by
  have ready := h.ready nodup started share
  have altered := u.boundary_alters z
  have taken : u.boundaryZone z = takenZone s t (done ++ .boundary z :: rest) (dueIn s done) z := ready.zone
  have reports : u.boundaryReports z = cycleReports s t (done ++ .boundary z :: rest) (.boundary z) := by
    have pending : (u.zone z).pending = (s.zone z).pending := by
      rw [ready.found]
      rcases foundAt_cases s (done ++ .boundary z :: rest) z with found | found <;> simp [found]
    have trimmed : (u.zone z).share.trimmed = (s.zone z).share.trimmed := by
      rw [ready.found]
      rcases foundAt_cases s (done ++ .boundary z :: rest) z with found | found <;> simp [found]
    have now : (t.zone z).share.trimmed = decide ((u.boundaryGrant z).1 < (u.boundaryDemand z).demand) := by
      rw [← own, altered.zone_same]
      rfl
    unfold State.boundaryReports cycleReports boundaryReports commitReports trimReports
    simp only [ready.update, pending, trimmed, now, if_pos due]
  rw [reports] at altered
  refine h.reach (.inl rfl) altered ?_ fun k => ?_
  · rw [zoneSoFar_taken nodup due, taken]
  · simp [releasedIn, boundaryOf, due, ready.update, ready.active]

/-- A zone's place in the cycle start (R132, R133). -/
theorem CycleSoFar.boundary (nodup : (done ++ .boundary z :: rest).Nodup) (started : .start ∈ done)
    (h : CycleSoFar s t (done ++ .boundary z :: rest) done u)
    (share : ∀ y, .boundary y ∈ done → (u.zone y).share = (t.zone y).share)
    (own : ((u.cycleZone z).zone z).share = (t.zone z).share) :
    CycleSoFar s t (done ++ .boundary z :: rest) (done ++ [.boundary z]) (u.cycleZone z) := by
  have waits := (once_of_nodup nodup).1
  have offset : (u.zone z).live.frameOffset = (s.zone z).live.frameOffset := by
    rw [h.zone, zoneSoFar_unplaced waits]
    split <;> simp
  have counter : u.modulator.counter = counterAfter s := by rw [h.modulator, if_pos started]
  unfold State.cycleZone at own ⊢
  rw [offset, counter] at own ⊢
  by_cases due : (s.zone z).live.frameOffset = counterAfter s
  · rw [if_pos due] at own ⊢
    exact h.take nodup started due share own
  · rw [if_neg due]
    exact h.pass nodup due

/-- The cycle start itself (R131, R171, R191). -/
theorem CycleSoFar.start (nodup : (done ++ .start :: rest).Nodup)
    (h : CycleSoFar s t (done ++ .start :: rest) done u) :
    CycleSoFar s t (done ++ .start :: rest) (done ++ [.start]) u.beginCycle := by
  have first := (once_of_nodup nodup).1
  have device : u.device = s.device := by rw [h.device, if_neg first]
  have modulator : u.modulator = s.modulator := by rw [h.modulator, if_neg first]
  have next : nextDevice u = nextDevice s := by unfold nextDevice; rw [device]
  have counter : counterAfter u = counterAfter s := by unfold counterAfter; rw [next, device, modulator]
  have relink (l : Link) : Machine.relinked u l = Machine.relinked s l := by unfold relinked; rw [next, device]
  have link : u.beginCycle.link = (cycleReports s t (done ++ .start :: rest) .start).foldl Link.submit
      (relinked s u.link) := by
    rw [State.beginCycle_link, relink, device]
    rfl
  obtain ⟨zones, store, sensors, scan, stop, pending⟩ := u.beginCycle_keeps
  constructor
  case zone =>
    intro z
    rw [(u.zones_eq_iff _).1 zones z, h.zone]
    exact (zoneSoFar_other (e := .start) nofun nofun).symm
  case slot =>
    intro k
    have same : u.beginCycle.slot k = u.slot k := by simp [State.slot, store]
    rw [same, h.slot, releasedIn_concat]
    rfl
  case link =>
    rw [link]
    exact h.link.start first _
  case queue =>
    rw [link, queueSoFar_concat, if_pos rfl]
    exact h.queue.relinked.foldl _
  case device => rw [State.beginCycle_device, next, device, if_pos (by simp)]
  case modulator => rw [State.beginCycle_modulator, counter, if_pos (by simp)]
  case free => rw [store, h.free]
  case sensors => exact sensors.trans h.sensors
  case scan => exact scan.trans h.scan
  case stop => exact stop.trans h.stop
  case pending => exact pending.trans h.pending

/-- The expiry of the silence timer, which runs as before the cycle start (R191, R192). -/
theorem CycleSoFar.expiry (nodup : (done ++ .expiry :: rest).Nodup)
    (able : CanExpire s (done ++ .expiry :: rest))
    (h : CycleSoFar s t (done ++ .expiry :: rest) done u) :
    CycleSoFar s t (done ++ .expiry :: rest) (done ++ [.expiry]) u.loseLink := by
  have first := (once_of_nodup nodup).1
  obtain ⟨runs, unrestarted⟩ := able
  obtain ⟨timeout, running⟩ := Option.ne_none_iff_exists'.1 runs
  have silence : u.link.silence = some timeout := by
    rw [h.link.silence, if_neg first]
    split
    · next started =>
      obtain ⟨earlier, later, rfl⟩ := List.append_of_mem started
      have settled : ¬(s.link.connected = true ∧ s.device.live.timeout ≠ (nextDevice s).timeout) := by
        rintro ⟨connected, changed⟩
        exact first (List.mem_append_left _
          (unrestarted earlier (later ++ .expiry :: rest) (by simp) ⟨connected, changed.symm⟩))
      simp only [relinked, if_neg settled, running]
    · exact running
  have link : u.loseLink.link = (cycleReports s t (done ++ .expiry :: rest) .expiry).foldl Link.submit
      u.link.dropped := by
    rw [State.loseLink_link silence]
    simp [cycleReports, running]
  have started : .start ∈ done ++ [CycleEvent.expiry] ↔ .start ∈ done := by simp
  obtain ⟨store, zones, device, ⟨sensors, scan, stop, modulator⟩, pending⟩ := u.loseLink_sameButLink
  constructor
  case zone =>
    intro z
    rw [(u.zones_eq_iff _).1 zones z, h.zone]
    exact (zoneSoFar_other (e := .expiry) nofun nofun).symm
  case slot =>
    intro k
    have same : u.loseLink.slot k = u.slot k := by simp [State.slot, store]
    rw [same, h.slot, releasedIn_concat]
    rfl
  case link =>
    rw [link]
    exact h.link.expiry _
  case queue =>
    rw [link, queueSoFar_concat, if_neg nofun]
    have same : u.link.ReportsEq u.link.dropped := ⟨rfl, rfl, rfl⟩
    exact (h.queue.trans same).foldl _
  case device => simp only [device, h.device, started]
  case modulator => simp only [modulator, h.modulator, started]
  case free => rw [store, h.free]
  case sensors => exact sensors.trans h.sensors
  case scan => exact scan.trans h.scan
  case stop => exact stop.trans h.stop
  case pending => exact pending.trans h.pending

/-- Any event. -/
theorem CycleSoFar.event (cycle : CycleOrder (done ++ e :: rest))
    (able : .expiry ∈ done ++ e :: rest → CanExpire s (done ++ e :: rest))
    (h : CycleSoFar s t (done ++ e :: rest) done u)
    (share : ∀ y, .boundary y ∈ done → (u.zone y).share = (t.zone y).share)
    (own : ∀ y, e = .boundary y → ((u.cycleEvent e).zone y).share = (t.zone y).share) :
    CycleSoFar s t (done ++ e :: rest) (done ++ [e]) (u.cycleEvent e) := by
  have nodup := cycle.nodup
  cases e with
  | start => exact h.start nodup
  | expiry => exact h.expiry nodup (able (by simp))
  | hold z => exact h.hold nodup
  | boundary z => exact h.boundary nodup (cycle.2.1 z done rest rfl) share (own z rfl)

/-- Every part of the order, with the state after the whole order for `t`. -/
theorem cycleSoFar_of_prefix (cycle : CycleOrder order) (able : .expiry ∈ order → CanExpire s order)
    (share : ∀ y, (t.zone y).share = ((order.foldl State.cycleEvent s).zone y).share)
    (split : order = done ++ rest) : CycleSoFar s t order done (done.foldl State.cycleEvent s) := by
  induction done using List.reverseRecOn generalizing rest with
  | nil => exact .nothing s t order
  | append_singleton done e ih =>
    rw [List.append_assoc, List.singleton_append] at split
    have before := ih split
    have last : order.foldl State.cycleEvent s
        = rest.foldl State.cycleEvent ((done.foldl State.cycleEvent s).cycleEvent e) := by
      rw [split, List.foldl_append, List.foldl_cons]
    rw [List.foldl_append, List.foldl_cons, List.foldl_nil]
    subst split
    have nodup := cycle.nodup
    refine before.event cycle able (fun y placed => ?_) fun y same => ?_
    · have none : .boundary y ∉ e :: rest := fun again => (List.nodup_append.1 nodup).2.2 _ placed _ again rfl
      rw [share, List.foldl_append]
      exact (State.cycleEvents_share none).symm
    · rw [share, last]
      exact (State.cycleEvents_share (same ▸ (once_of_nodup nodup).2)).symm

end

end Sys2Proof.Machine
end

section
/-!
CYCLE_START, the row (R53, R62, R75, R130 to R134, R150 to R152, R166, R171, R191): where it is due, what the events of
the order make of the state, the pins driven for tick 0; and where it is not, nothing.
-/

namespace Sys2Proof.Machine

section
variable {s : State} {order : List CycleEvent}

theorem exec_cycleStart_within (within : ¬CycleDue s) (order : List CycleEvent) :
    exec (.cycleStart order) s = .next s.wake :=
  State.carryOut_same (effect := fun s => if s.modulator.atCycleEnd then s.startCycle order else s)
    (if_neg (mt s.wake.atCycleEnd_iff.1 within))

theorem exec_cycleStart_due (due : CycleDue s) (order : List CycleEvent) :
    exec (.cycleStart order) s = .next (s.wake.startCycle order).wake :=
  congrArg (fun u : State => Host.Outcome.next u.wake) (if_pos (s.wake.atCycleEnd_iff.2 due))

/-- What can expire before an IDLE transmitter has chosen can expire after it (R183). -/
theorem canExpire_wake : CanExpire s.wake order ↔ CanExpire s order := by
  have next : nextDevice s.wake = nextDevice s := rfl
  simp [CanExpire, next]

/-- The timers after a device commit are not the transmitter's matter. -/
theorem relinked_wake : (relinked s.wake s.wake.link).silence = (relinked s s.link).silence
    ∧ (relinked s.wake s.wake.link).resend = (relinked s s.link).resend := by
  have same : relinked s.wake s.wake.link = relinked s s.wake.link := rfl
  rw [same]
  simp only [relinked, State.wake_link, Link.wake_connected, Link.wake_silence, Link.wake_resend, and_self]

/-- An expiry that cannot fall is left out of the order. -/
theorem State.cycleOrder_of_unable (cycle : CycleOrder order) (unable : ¬CanExpire s order) :
    s.cycleOrder order = s.cycleOrder (order.filter (fun e => !e.isLink)) := by
  have plain := cycle.filter_isLink
  have none : .expiry ∉ order.filter (fun e => !e.isLink) := fun kept => by simp [CycleEvent.isLink] at kept
  rw [State.cycleOrder_of plain fun kept => absurd kept none, State.cycleOrder, if_pos (isCycleOrder_iff.2 cycle)]
  exact if_neg (mt (State.canExpire_iff cycle).1 unable)

theorem exec_cycleStart_unable (cycle : CycleOrder order) (unable : ¬CanExpire s order) :
    exec (.cycleStart order) s = exec (.cycleStart (order.filter (fun e => !e.isLink))) s := by
  by_cases due : CycleDue s
  · rw [exec_cycleStart_due due, exec_cycleStart_due due, State.startCycle, State.startCycle,
      State.cycleOrder_of_unable cycle (mt canExpire_wake.1 unable)]
  · rw [exec_cycleStart_within due, exec_cycleStart_within due]

/-- The reports of a cycle start are not the transmitter's matter. -/
theorem cycleReports_wake (t : State) : cycleReports s.wake t order = cycleReports s t order := by
  funext e
  cases e with
  | expiry => simp [cycleReports]
  | start | boundary | hold => rfl

end

section
variable {s t u : State} {order early late : List CycleEvent}

/-- At the end of the order every zone has had its place: at its boundary as the statement says. -/
theorem CycleSoFar.boundaryTaken (h : CycleSoFar s t order order u) (cycle : CycleOrder order)
    (shown : ∀ z, t.zone z = { u.zone z with pin := (t.zone z).pin }) {before after : List ZoneId} {z : ZoneId}
    (split : dueIn s order = before ++ z :: after) : BoundaryTaken s t order before z := by
  have due : (s.zone z).live.frameOffset = counterAfter s := (mem_dueIn.1 (split ▸ by simp : z ∈ dueIn s order)).2
  refine boundaryTaken_of_takenZone (t.zone z).pin ?_
  rw [shown z, h.zone]
  simp only [zoneSoFar, cycle.boundary_mem z, placedZone, due, cycle.dueBefore_of_split split, thenHeld, if_true, true_and,
    Bool.not_eq_true]
  split
  · rw [linkHeld_eq, linkHeld_eq]
  · rfl

/-- Any other zone has its frame position one on (R133). -/
theorem CycleSoFar.passed (h : CycleSoFar s t order order u) (cycle : CycleOrder order) {z : ZoneId}
    (notDue : ¬AtBoundary s z) :
    u.zone z = (if .hold z ∈ order then linkHeld (s.zone z) else s.zone z).passCycle := by
  have notDue : (s.zone z).live.frameOffset ≠ counterAfter s := notDue
  rw [h.zone]
  simp only [zoneSoFar, cycle.boundary_mem z, placedZone, notDue, if_true, if_false, false_and, and_false,
    not_false_eq_true, and_true]
  split
  · exact linkHeld_passCycle _
  · rfl

/-- Every slot has lost the zones that have released its program. -/
theorem CycleOrder.releasedIn_eq (cycle : CycleOrder order) (k : SlotId) :
    releasedIn s order order k = allZones.countP (fun z =>
      decide ((s.zone z).live.frameOffset = counterAfter s) && (updateAt s order z).released
        && decide ((s.zone z).zr.active = some k)) :=
  cycle.boundaries_perm.countP_eq _

end

/-- Settles O53: the events of the order one after the other, and then the pins. -/
theorem cycleStartTakesTheBoundaries : Obligations.CycleStartTakesTheBoundaries := by
  refine ⟨fun s order within => ?_, fun s order cycle unable => exec_cycleStart_unable cycle unable, ?_⟩
  · rw [chosen_eq]
    exact exec_cycleStart_within within order
  intro s early late order dueNow cycle able due
  have ableWake : .expiry ∈ order → CanExpire s.wake order := fun falls => canExpire_wake.2 (able falls)
  have run : exec (.cycleStart order) s
      = .next ((order.foldl State.cycleEvent s.wake).startTick 0).wake := by
    rw [exec_cycleStart_due dueNow, State.startCycle, State.cycleOrder_of cycle ableWake]
  refine ⟨_, run, ?_⟩
  generalize last : order.foldl State.cycleEvent s.wake = u
  generalize final : (u.startTick 0).wake = t
  have zone (z : ZoneId) : t.zone z = (u.zone z).drive 0 := by
    rw [← final, State.wake_zone, State.startTick_zone]
  have shown (z : ZoneId) : t.zone z = { u.zone z with pin := (t.zone z).pin } := by
    rw [zone]
    rfl
  have soFar : CycleSoFar s.wake t order order u := by
    rw [← last]
    refine cycleSoFar_of_prefix (rest := []) cycle ableWake (fun z => ?_) (List.append_nil _).symm
    rw [zone, last]
    rfl
  have started : CycleEvent.start ∈ order := by simp [order]
  have whole : (((.start :: late).flatMap (cycleReports s t order)).foldl Link.submit
      (relinked s ((early.flatMap (cycleReports s t order)).foldl Link.submit s.link))).ReportsEq u.link := by
    have nodup := once_of_nodup cycle.nodup
    have base : s.link.ReportsEq s.wake.link := by simp [Link.ReportsEq]
    have queue := soFar.queue
    rw [queueSoFar_whole nodup.1 nodup.2, cycleReports_wake] at queue
    exact (((base.foldl _).relinked).foldl _).trans queue
  obtain ⟨connected, silence, resend, frames⟩ := soFar.link
  obtain ⟨rate, receiver, awaitsReset, rxQueue, retry, replies, tx, runCount, txd⟩ := frames
  have link : t.link = u.link.wake u.device.live.ack := by
    rw [← final]
    rfl
  refine ⟨?_, ?_, fun before z after split => ?_, fun z apart => ?_, fun z => ?_, ?_, fun k => ?_, ?_, ?_, ?_, ?_, ?_, ?_,
    ?_, ⟨?_, ?_, ?_⟩, ?_, ?_, ?_, ?_, ?_⟩
  · rw [← final, State.wake_modulator, State.startTick_modulator, soFar.modulator, if_pos started]
    rfl
  · rw [← final, State.wake_device, State.startTick_device, soFar.device, if_pos started]
    rfl
  · exact soFar.boundaryTaken cycle shown split
  · rw [shown, soFar.passed cycle apart]
    rfl
  · rw [zone]
    exact (u.zone z).pinShows_drive 0
  · rw [← final, State.wake_store, State.startTick_store, soFar.free, State.wake_store]
  · rw [← final, State.wake_slot, State.startTick_slot, soFar.slot, cycle.releasedIn_eq]
    rfl
  · have served := reportsOf_wake (u := u.startTick 0) whole
    rwa [final] at served
  · rw [link, Link.wake_resend, resend, if_pos started, relinked_wake.2]
  · rw [link, Link.wake_connected, connected, State.wake_link, Link.wake_connected]
  · rw [link, Link.wake_silence, silence, if_pos started, relinked_wake.1]
  · rw [link, Link.wake_rate, rate, State.wake_link, Link.wake_rate]
  · rw [link, Link.wake_receiver, receiver, State.wake_link, Link.wake_receiver]
  · rw [link, Link.wake_awaitsReset, awaitsReset, State.wake_link, Link.wake_awaitsReset]
  · rw [link, Link.wake_rxQueue, rxQueue, State.wake_link, Link.wake_rxQueue]
  · rw [link, Link.wake_replies, replies, State.wake_link, Link.wake_replies]
  · rw [link, Link.wake_retry, retry, State.wake_link, Link.wake_retry]
  · have served := transmitterServed_of_wake (s := s) (u := u.startTick 0) tx runCount txd
    rwa [final] at served
  · rw [← final, State.wake_sensors, State.startTick_sensors, soFar.sensors, State.wake_sensors]
  · rw [← final, State.wake_scan, State.startTick_scan, soFar.scan, State.wake_scan]
  · rw [← final, State.wake_stop, State.startTick_stop, soFar.stop, State.wake_stop]
  · rw [← final, State.wake_pending, State.startTick_pending, soFar.pending, State.wake_pending]

end Sys2Proof.Machine
end

section
/-!
Boundaries without a run update (R53, R54, R57, R59, R60), by the zone's state.
-/

namespace Sys2Proof.Machine

section
variable {e : RunEnv} {r : ZoneRec}

/-- A held boundary freezes the zone's time (R59). -/
theorem RunEnv.executorStage_held (held : r.state = .held) :
    e.executorStage r
      = { zr := { r with runMark := false }, reports := [], regime := e.heldRegime r, released := false } := by
  simp [RunEnv.executorStage, held]

theorem RunEnv.executorStage_keeping (keeps : r.state = .keeping) : e.executorStage r = e.keep r [] false := by
  simp [RunEnv.executorStage, keeps]

/-- A STEPPING zone that has made its steps holds for STEP (R57). -/
theorem RunEnv.executorStage_stepDone (stepping : r.state = .stepping) (done : r.steps = 0) :
    e.executorStage r = e.hold r [] .step .stepDone .running false := by
  simp [RunEnv.executorStage, stepping, done]

/-- A run update whose feedback check fails holds for SENSOR and does nothing else (R54). -/
theorem RunEnv.executorStage_unsupplied {g : Seg} (updates : Updates r) (current : e.prog[r.seg]? = some g)
    (closed : g.closedTimed = true) (unusable : e.usable = false) :
    e.executorStage r = e.hold r [] .sensor .sensor .running false := by
  have fails : e.runUpdate r = e.hold r [] .sensor .sensor .running false := by
    simp [RunEnv.runUpdate, current, closed, unusable]
  rcases updates with running | ⟨stepping, left⟩
  · simpa [RunEnv.executorStage, running] using fails
  · simpa [RunEnv.executorStage, stepping, Nat.ne_of_gt left] using fails

end

/-- Settles O48: one equation for each state of the zone, and the two rules of a held boundary. -/
theorem boundariesWithoutARunUpdate : Obligations.BoundariesWithoutARunUpdate := by
  intro e r holds
  have of_hold (c : Cause) (why : StateReason) (target : Target)
      (stage : e.executorStage r = e.hold r [] c why target false) : holds c why target := by
    obtain ⟨regime, fits, hold⟩ := e.hold_spec r [] c why target false
    exact ⟨regime, fits, stage.trans hold⟩
  refine ⟨fun held => ?_, fun keeps usable => ?_, fun keeps unusable fed => ?_, fun keeps unusable unfed => ?_,
    fun stepping done => ?_, fun inactive => ?_, fun g updates current closed unusable => ?_⟩
  · exact ⟨_, e.heldRegime_spec r, RunEnv.executorStage_held held⟩
  · rw [RunEnv.executorStage_keeping keeps, RunEnv.keep_usable usable]
  · exact of_hold _ _ _ ((RunEnv.executorStage_keeping keeps).trans (RunEnv.keep_failed unusable fed))
  · rw [RunEnv.executorStage_keeping keeps, RunEnv.keep_unfed unusable unfed]
  · exact of_hold _ _ _ (RunEnv.executorStage_stepDone stepping done)
  · refine RunEnv.executorStage_inactive e ?_
    rcases inactive with idle | tripped
    · rw [idle]; rfl
    · rw [tripped]; rfl
  · exact of_hold _ _ _ (RunEnv.executorStage_unsupplied updates current closed unusable)

end Sys2Proof.Machine
end

section
/-!
ZONE_START refused (R50): the rows in their order, each on the condition that no row before it applies.
-/

namespace Sys2Proof.Machine

/-! ## The rows -/

section
variable {s : State} {z : ZoneId} {k : SlotId}

theorem State.startFault_busy (busy : (s.zone z).zr.state ≠ .idle) :
    s.startFault z k = some (.badState (s.zone z).zr.state.code) := by
  simp [State.startFault, busy]

theorem State.startFault_stopped (idle : (s.zone z).zr.state = .idle) (asserted : s.stop.asserted = true) :
    s.startFault z k = some .stopped := by
  simp [State.startFault, idle, asserted]

theorem State.startFault_unsealed (idle : (s.zone z).zr.state = .idle) (released : s.stop.asserted = false)
    (unsealed : (s.slot k).state ≠ .sealed) : s.startFault z k = some (.badState (s.slot k).state.code) := by
  simp [State.startFault, idle, released, unsealed]

theorem State.startFault_restricted (idle : (s.zone z).zr.state = .idle) (released : s.stop.asserted = false)
    (isSealed : (s.slot k).state = .sealed) (restricted : (s.zone z).restricted = true) :
    s.startFault z k = some .commitPending := by
  simp [State.startFault, idle, released, isSealed, restricted]

/-- The rows about the sensors, where no row before them applies (R50, rows 5 to 7). -/
theorem State.startFault_sensors (idle : (s.zone z).zr.state = .idle) (released : s.stop.asserted = false)
    (isSealed : (s.slot k).state = .sealed) (unrestricted : (s.zone z).restricted = false) :
    s.startFault z k =
      if hasClosedLoop (s.slot k).segs = true ∧ (s.zone z).live.feedback = none then some (.notReady none)
      else if s.feedbackBroken z then some (.notReady (s.zone z).live.feedback)
      else (s.guardNotReady z).map (fun i => .notReady (some i)) := by
  simp [State.startFault, idle, released, isSealed, unrestricted]

theorem State.feedbackBroken_of {i : SensorId} (fed : (s.zone z).live.feedback = some i) (broken : ¬Usable s i) :
    s.feedbackBroken z = true :=
  (s.feedbackBroken_iff z).2 ⟨i, fed, broken⟩

theorem State.feedbackBroken_ready (ready : FeedbackReady s z k) : s.feedbackBroken z = false := by
  rw [Bool.eq_false_iff, ne_eq, State.feedbackBroken_iff]
  exact fun ⟨i, fed, broken⟩ => broken (ready.2 i fed)

end

/-! ## The replies -/

theorem blockZoneStart_noSlot {z : ZoneId} {slot : Byte} (outside : 15 < slot.toNat) (flags hi lo : Byte) (s : State) :
    blockZoneStart [byte z.val, slot, flags, hi, lo] s = ([0x12, 3], s) := by
  have none : nibbleAt [byte z.val, slot, flags, hi, lo] 1 = none := nibbleAt_none outside
  simp [blockZoneStart, onZone, none, refuse, Status.bytes, Field.code]

theorem blockZoneStart_refused {s : State} {z : ZoneId} {k : SlotId} {st : Status} (fault : s.startFault z k = some st)
    (flags hi lo : Byte) : blockZoneStart [byte z.val, byte k.val, flags, hi, lo] s = (st.bytes, s) := by
  simp [blockZoneStart, onZone, fault, refuse]

/-- Settles O18, row by row of R50. -/
theorem startIsRefusedInOrder : Obligations.StartIsRefusedInOrder := by
  intro s q z slot flags hi lo p x refused h
  refine ⟨fun outside => ?_, fun k named => ?_⟩
  · exact onlyAnswers_of_block h rfl rfl (blockZoneStart_noSlot outside flags hi lo _)
  subst named
  have row {st : Status} (fault : s.wake.takeFrame.startFault z k = some st) : refused st.bytes :=
    onlyAnswers_of_block h rfl rfl (blockZoneStart_refused fault flags hi lo)
  refine ⟨fun busy => row (State.startFault_busy busy), fun idle =>
    ⟨fun asserted => row (State.startFault_stopped idle asserted), fun released =>
    ⟨fun unsealed => row (State.startFault_unsealed idle released unsealed), fun isSealed =>
    ⟨fun restricted => row (State.startFault_restricted idle released isSealed restricted), fun unrestricted => ?_⟩⟩⟩⟩
  have sensors := State.startFault_sensors (s := s.wake.takeFrame) (z := z) (k := k) idle released isSealed unrestricted
  refine ⟨fun needs unfed => row (st := .notReady none) ?_, fun i fed broken => row (st := .notReady (some i)) ?_,
    fun ready before g after guards earlier unusable => row (st := .notReady (some g.sensor)) ?_⟩
  · rw [sensors]
    exact if_pos ⟨(hasClosedLoop_iff _).2 needs, unfed⟩
  · have fed' : (s.wake.takeFrame.zone z).live.feedback = some i := fed
    have present : (s.wake.takeFrame.zone z).live.feedback ≠ none := by rw [fed']; nofun
    rw [sensors, if_neg (fun missing => present missing.2), if_pos (State.feedbackBroken_of fed' broken), fed']
  · have sound : s.wake.takeFrame.feedbackBroken z = false := State.feedbackBroken_ready (k := k) ready
    have first : s.wake.takeFrame.guardNotReady z = some g.sensor := State.guardNotReady_at guards earlier unusable
    rw [sensors, if_neg (fun missing => ready.1 ((hasClosedLoop_iff _).1 missing.1) missing.2), sound, first]
    rfl

end Sys2Proof.Machine
end

section
/-!
ZONE_ABORT (R68, R140, R153): an active zone ends, its output cut and its holding returned at once.
-/

namespace Sys2Proof.Machine

section
variable {s : State} {z : ZoneId}

theorem blockZoneAbort_idle (idle : (s.zone z).zr.state = .idle) : blockZoneAbort [byte z.val] s = ([0x00], s) := by
  simp [blockZoneAbort, onZone, idle, Status.bytes]

theorem blockZoneAbort_tripped (tripped : (s.zone z).zr.state = .tripped) :
    blockZoneAbort [byte z.val] s = ([0x13, 5], s) := by
  simp [blockZoneAbort, onZone, tripped, refuse, Status.bytes, ZoneState.code]

theorem blockZoneAbort_active (active : (s.zone z).zr.state.isActive = true) :
    blockZoneAbort [byte z.val] s =
      ([0x00], ((s.setZone z (s.zone z).abort).releaseProgram (s.zone z).zr.active).reportState z
        (s.zone z).zr.state .abort) := by
  cases state : (s.zone z).zr.state with
  | idle | tripped => simp [state, ZoneState.isActive] at active
  | running | stepping | held | keeping => simp [blockZoneAbort, onZone, state, Status.bytes]

end

/-- Settles O19: by the zone's state; the accepted abort is read field by field. -/
theorem abortEndsAnActiveZone : Obligations.AbortEndsAnActiveZone := by
  intro s q z p f x h
  refine ⟨fun idle => ?_, fun tripped => ?_, ?_⟩
  · exact onlyAnswers_of_block h rfl rfl (blockZoneAbort_idle (s := s.wake.takeFrame) idle)
  · exact onlyAnswers_of_block h rfl rfl (blockZoneAbort_tripped (s := s.wake.takeFrame) tripped)
  · intro active x'
    have step := exec_of_block (c := .zoneAbort q p) (ok := true) (block := blockZoneAbort p) h rfl rfl
    rw [show blockZoneAbort p s.wake.takeFrame = _ from blockZoneAbort_active active] at step
    have aborted : x.abort = x' := by
      simp [x', Zone.abort, Zone.cut, Zone.returnHolding, ZoneRec.leave, FrameRec.cut, level_false]
    have found : s.wake.takeFrame.zone z = x := rfl
    rw [found, aborted] at step
    have link := State.reportState_link_eq ((s.wake.takeFrame.setZone z x').releaseProgram x.zr.active) z
      x.zr.state .abort
    simp only [State.releaseProgram_zone, State.zone_setZone, if_true, State.releaseProgram_link,
      State.setZone_link] at link
    refine ⟨_, step, answered_of_submitted link, ⟨?_, fun y other => ?_, ?_, ?_, ?_⟩, ⟨?_, fun k => ?_⟩,
      submitted_of_block link⟩
    · simp
    · simp [other]
    · simp
    · simp [SamePlant]
    · simp
    · simp
    · simp [State.releaseProgram_slot]

end Sys2Proof.Machine
end

section
/-!
ZONE_PAUSE, ZONE_RESUME, ZONE_STEP and ZONE_SKIP (R61, R63, R65, R66): the host holds a zone, releases it, and moves its
program on.
-/

namespace Sys2Proof.Machine

/-! ## ZONE_PAUSE (R61) -/

section
variable {s : State} {z : ZoneId}

theorem blockZonePause_refused (inactive : (s.zone z).zr.state.isActive = false) :
    blockZonePause [byte z.val] s = ([0x13, (s.zone z).zr.state.code], s) := by
  simp [blockZonePause, onZone, inactive, refuse, Status.bytes]

/-- A cause that changes the zone's state or its cause set is reported (R48, R61). -/
theorem blockZonePause_changed {r : ZoneRec} {old : ZoneState} (was : (s.zone z).zr.state = old)
    (active : old.isActive = true) (record : (s.zone z).zr.holdFor .host = r)
    (changed : ¬(r.state = old ∧ r.causes = (s.zone z).zr.causes)) :
    blockZonePause [byte z.val] s
      = ([0x00], (s.setZone z { s.zone z with zr := r }).reportState z old .pause) := by
  subst was record
  simp [blockZonePause, onZone, active, Status.bytes, State.holdZone, changed]

theorem blockZonePause_unchanged {r : ZoneRec} (active : (s.zone z).zr.state.isActive = true)
    (record : (s.zone z).zr.holdFor .host = r)
    (same : r.state = (s.zone z).zr.state ∧ r.causes = (s.zone z).zr.causes) :
    blockZonePause [byte z.val] s = ([0x00], s.setZone z { s.zone z with zr := r }) := by
  subst record
  simp [blockZonePause, onZone, active, Status.bytes, State.holdZone, same]

end

section
variable {r : ZoneRec}

/-- A zone that is not yet HELD takes HOST as its one cause (R61). -/
theorem ZoneRec.holdFor_host_free (active : r.state.isActive = true) (free : r.state ≠ .held) :
    r.holdFor .host = { r with
      state := .held, causes := ⟨true, false, false, false, false, false⟩
      target := if r.state = .keeping then .keeping else .running, steps := 0 } := by
  unfold ZoneRec.holdFor
  cases state : r.state with
  | running | stepping | keeping => rfl
  | held => exact absurd state free
  | idle | tripped => simp [state, ZoneState.isActive] at active

/-- In a HELD zone HOST joins the causes (R61). -/
theorem ZoneRec.holdFor_host_held (held : r.state = .held) :
    r.holdFor .host = { r with causes := { r.causes with host := true } } := by
  simp [ZoneRec.holdFor, held, Causes.union, Causes.only, Causes.none]

end

/-- Settles O20: by the zone's state, and for a HELD zone by whether HOST is new. -/
theorem pauseHoldsTheZone : Obligations.PauseHoldsTheZone := by
  intro s q z p f x h
  refine ⟨fun inactive => ?_, fun free active => ?_, fun held => ?_⟩
  · exact onlyAnswers_of_block h rfl rfl (blockZonePause_refused (s := s.wake.takeFrame) inactive)
  · exact zoneAnswers_of_report h rfl rfl (blockZonePause_changed (s := s.wake.takeFrame) rfl active
      (ZoneRec.holdFor_host_free active free) fun same => free same.1.symm)
  · have record := ZoneRec.holdFor_host_held held
    cases already : x.zr.causes.host with
    | true =>
      have same : { x.zr.causes with host := true } = x.zr.causes := by rw [← already]
      have active : x.zr.state.isActive = true := by rw [held]; rfl
      exact zoneAnswers_of_set h rfl rfl
        (blockZonePause_unchanged (s := s.wake.takeFrame) active record ⟨rfl, same⟩)
    | false =>
      have changed : { x.zr.causes with host := true } ≠ x.zr.causes := by
        intro same
        have joined : true = x.zr.causes.host := congrArg Causes.host same
        exact absurd (joined.trans already) nofun
      exact zoneAnswers_of_report h rfl rfl
        (blockZonePause_changed (s := s.wake.takeFrame) held rfl record fun same => changed same.2)

/-! ## ZONE_RESUME (R63) -/

/-- The causes left of a set when a RESUME names some, the SENSOR cause staying while its sensor is not usable (R63). -/
def Causes.leftOf (c : Causes) (named : Byte) (stays : Bool) : Causes :=
  { host := c.host && !named.getLsbD 0
    brk := c.brk && !named.getLsbD 1
    step := c.step && !named.getLsbD 2
    sensor := c.sensor && (stays || !named.getLsbD 3)
    link := c.link && !named.getLsbD 4
    settle := c.settle && !named.getLsbD 5 }

/-- Removing what is named and present is not keeping it. -/
theorem and_not_and (a b : Bool) : (a && !(b && a)) = (a && !b) := by
  cases a <;> cases b <;> rfl

theorem Causes.minus_removable (c : Causes) (named : Byte) (stays : Bool) :
    c.minus (removable (Causes.ofByte named) c stays) = c.leftOf named stays := by
  have sensor : (c.sensor && !(named.getLsbD 3 && c.sensor && !stays)) = (c.sensor && (stays || !named.getLsbD 3)) := by
    cases c.sensor <;> cases stays <;> simp
  simp only [Causes.minus, removable, Causes.inter, Causes.ofByte, Causes.leftOf, and_not_and, sensor]

/-- The removal is not complete where SENSOR is named and present and stays (R63). -/
theorem removable_eq_inter (c : Causes) (named : Byte) (stays : Bool) :
    removable (Causes.ofByte named) c stays = (Causes.ofByte named).inter c
      ↔ (c.sensor && named.getLsbD 3 && stays) = false := by
  have sensor : ((named.getLsbD 3 && c.sensor && !stays) = (named.getLsbD 3 && c.sensor))
      ↔ (c.sensor && named.getLsbD 3 && stays) = false := by
    cases c.sensor <;> cases stays <;> simp
  simp only [removable, Causes.inter, Causes.ofByte, Causes.mk.injEq, true_and, and_true]
  exact sensor

theorem Causes.isEmpty_iff (c : Causes) : c.isEmpty = true ↔ c = .none := by
  obtain ⟨host, brk, step, sensor, link, settle⟩ := c
  simp [Causes.isEmpty, Causes.none, and_assoc]

section
variable {s : State} {z : ZoneId}

theorem blockZoneResume_refused (free : (s.zone z).zr.state ≠ .held) (named : Byte) :
    blockZoneResume [byte z.val, named] s = ([0x13, (s.zone z).zr.state.code], s) := by
  simp [blockZoneResume, onZone, free, refuse, Status.bytes]

/-- The zone record of a HELD zone with these causes left (R45, R63). -/
def ZoneRec.withLeft (r : ZoneRec) (left : Causes) : ZoneRec :=
  { r with
    causes := left
    state := if left = .none then (if r.target = .keeping then .keeping else .running) else .held }

theorem ZoneRec.resume_eq {r : ZoneRec} (held : r.state = .held) (removed : Causes) :
    r.resume removed = r.withLeft (r.causes.minus removed) := by
  unfold ZoneRec.resume ZoneRec.withLeft
  simp only [Causes.isEmpty_iff, held]
  cases r.target <;> rfl

theorem blockZoneResume_held (held : (s.zone z).zr.state = .held) (named : Byte) :
    blockZoneResume [byte z.val, named] s =
      ([if (s.zone z).zr.causes.sensor && named.getLsbD 3 && s.feedbackBroken z then 0x02 else 0x00,
          ((s.zone z).zr.causes.leftOf named (s.feedbackBroken z)).code],
        if (s.zone z).zr.causes.leftOf named (s.feedbackBroken z) = (s.zone z).zr.causes
            ∧ ((s.zone z).zr.withLeft ((s.zone z).zr.causes.leftOf named (s.feedbackBroken z))).state
              = (s.zone z).zr.state then
          s.setZone z { s.zone z with
            zr := (s.zone z).zr.withLeft ((s.zone z).zr.causes.leftOf named (s.feedbackBroken z)) }
        else (s.setZone z { s.zone z with
            zr := (s.zone z).zr.withLeft ((s.zone z).zr.causes.leftOf named (s.feedbackBroken z)) }).reportState
          z .held .resume) := by
  have read : at8 [byte z.val, named] 1 = named := rfl
  have status (part : Bool) : (if part = false then Status.ok else Status.part).bytes
      = [if part = true then 0x02 else 0x00] := by cases part <;> rfl
  simp only [blockZoneResume, onZone, zoneOf_byte, held, ne_eq, not_true_eq_false, if_false, read,
    ZoneRec.resume_eq held, Causes.minus_removable, removable_eq_inter, status]
  rfl

/-- A RESUME that removes no cause leaves the zone HELD and reports nothing (R48, R63). -/
theorem blockZoneResume_unchanged {named : Byte} {stays : Bool} (held : (s.zone z).zr.state = .held)
    (broken : s.feedbackBroken z = stays) (filled : (s.zone z).zr.causes ≠ .none)
    (same : (s.zone z).zr.causes.leftOf named stays = (s.zone z).zr.causes) :
    blockZoneResume [byte z.val, named] s =
      ([if (s.zone z).zr.causes.sensor && named.getLsbD 3 && stays then 0x02 else 0x00,
          ((s.zone z).zr.causes.leftOf named stays).code],
        s.setZone z { s.zone z with zr := (s.zone z).zr.withLeft ((s.zone z).zr.causes.leftOf named stays) }) := by
  subst broken
  have still : ((s.zone z).zr.withLeft ((s.zone z).zr.causes.leftOf named (s.feedbackBroken z))).state
      = (s.zone z).zr.state := by
    rw [same, held]
    exact if_neg filled
  exact (blockZoneResume_held held named).trans (congrArg (Prod.mk _) (if_pos ⟨same, still⟩))

/-- A RESUME that removes a cause is reported (R48, R63). -/
theorem blockZoneResume_changed {named : Byte} {stays : Bool} (held : (s.zone z).zr.state = .held)
    (broken : s.feedbackBroken z = stays)
    (changed : (s.zone z).zr.causes.leftOf named stays ≠ (s.zone z).zr.causes) :
    blockZoneResume [byte z.val, named] s =
      ([if (s.zone z).zr.causes.sensor && named.getLsbD 3 && stays then 0x02 else 0x00,
          ((s.zone z).zr.causes.leftOf named stays).code],
        (s.setZone z { s.zone z with
          zr := (s.zone z).zr.withLeft ((s.zone z).zr.causes.leftOf named stays) }).reportState z .held .resume) := by
  subst broken
  exact (blockZoneResume_held held named).trans
    (congrArg (Prod.mk _) (if_neg fun unchanged => changed unchanged.1))

end

/-- Settles O21: the causes left bit by bit, and a report where they have changed. -/
theorem resumeRemovesTheNamedCauses : Obligations.ResumeRemovesTheNamedCauses := by
  intro s q z named p f x c h
  refine ⟨fun free => ?_, fun held filled stays staysIff => ?_⟩
  · exact onlyAnswers_of_block h rfl rfl (blockZoneResume_refused (s := s.wake.takeFrame) free named)
  intro left x'
  have broken : s.wake.takeFrame.feedbackBroken z = stays :=
    Bool.eq_iff_iff.2 ((s.wake.takeFrame.feedbackBroken_iff z).trans staysIff.symm)
  have some : c ≠ .none := fun none => Bool.false_ne_true (filled.symm.trans ((Causes.isEmpty_iff c).2 none))
  by_cases same : left = c
  · rw [if_pos same]
    exact zoneAnswers_of_set h rfl rfl (blockZoneResume_unchanged (s := s.wake.takeFrame) held broken some same)
  · rw [if_neg same]
    exact zoneAnswers_of_report h rfl rfl (blockZoneResume_changed (s := s.wake.takeFrame) held broken same)

/-! ## ZONE_STEP and ZONE_SKIP (R65, R66) -/

section
variable {s : State} {z : ZoneId}

/-- The zones that ZONE_STEP accepts (R65). -/
theorem ZoneRec.steppable_iff (r : ZoneRec) :
    r.steppable = true ↔ r.state = .held ∧ r.target = .running ∧ r.causes.sensor = false ∧ r.causes.link = false := by
  simp [ZoneRec.steppable, and_assoc]

theorem blockZoneStep_zero (s : State) (z : ZoneId) : blockZoneStep [byte z.val, 0] s = ([0x12, 4], s) := by
  simp [blockZoneStep, onZone, refuse, Status.bytes, Field.code]

theorem nat8_one_ne_zero {n : Byte} (some : n ≠ 0) (b : Byte) : nat8 [b, n] 1 ≠ 0 :=
  fun none => some (BitVec.eq_of_toNat_eq none)

theorem blockZoneStep_refused {n : Byte} (some : n ≠ 0) (unfit : ¬(s.zone z).zr.steppable = true) :
    blockZoneStep [byte z.val, n] s = ([0x13, (s.zone z).zr.state.code], s) := by
  simp only [blockZoneStep, onZone, zoneOf_byte, if_neg (nat8_one_ne_zero some _), if_neg unfit]
  rfl

theorem blockZoneStep_accepted {n : Byte} (some : n ≠ 0) (fit : (s.zone z).zr.steppable = true) :
    blockZoneStep [byte z.val, n] s =
      ([0x00], (s.setZone z { s.zone z with
        zr := { (s.zone z).zr with state := .stepping, causes := .none, steps := n.toNat } }).reportState z .held .step) := by
  simp only [blockZoneStep, onZone, zoneOf_byte, if_neg (nat8_one_ne_zero some _), if_pos fit]
  rfl

/-- The states in which ZONE_SKIP finds a program (R17, R66). -/
theorem ZoneRec.holdsProgram_iff (r : ZoneRec) :
    r.holdsProgram = true ↔ r.state = .running ∨ r.state = .stepping ∨ (r.state = .held ∧ r.target = .running) := by
  unfold ZoneRec.holdsProgram
  cases r.state <;> simp

theorem blockZoneSkip_accepted (runs : (s.zone z).zr.holdsProgram = true) :
    blockZoneSkip [byte z.val] s
      = ([0x00], s.setZone z { s.zone z with zr := { (s.zone z).zr with skip := true } }) := by
  simp [blockZoneSkip, onZone, runs, Status.bytes]

theorem blockZoneSkip_refused (still : ¬(s.zone z).zr.holdsProgram = true) :
    blockZoneSkip [byte z.val] s = ([0x13, (s.zone z).zr.state.code], s) := by
  simp [blockZoneSkip, onZone, still, refuse, Status.bytes]

end

/-- Settles O22: the count first, then the zone; and the zones that hold a program. -/
theorem stepAndSkipActOnTheProgram : Obligations.StepAndSkipActOnTheProgram := by
  refine ⟨?_, ?_⟩
  · intro s q z n p f x steppable h
    refine ⟨fun zero => ?_, fun some unfit => ?_, fun some fit => ?_⟩
    · subst zero
      exact onlyAnswers_of_block h rfl rfl (blockZoneStep_zero s.wake.takeFrame z)
    · exact onlyAnswers_of_block h rfl rfl
        (blockZoneStep_refused (s := s.wake.takeFrame) some (mt (ZoneRec.steppable_iff x.zr).1 unfit))
    · exact zoneAnswers_of_report h rfl rfl
        (blockZoneStep_accepted (s := s.wake.takeFrame) some ((ZoneRec.steppable_iff x.zr).2 fit))
  · intro s q z p f x runs h
    refine ⟨fun holds => ?_, fun still => ?_⟩
    · exact zoneAnswers_of_set h rfl rfl
        (blockZoneSkip_accepted (s := s.wake.takeFrame) ((ZoneRec.holdsProgram_iff x.zr).2 holds))
    · exact onlyAnswers_of_block h rfl rfl
        (blockZoneSkip_refused (s := s.wake.takeFrame) (mt (ZoneRec.holdsProgram_iff x.zr).1 still))

end Sys2Proof.Machine
end

section
/-!
ZONE_STATUS (R71, R209) and the codes of the enumerated values (R202): the reply is the reading of the zone's record,
field by field.
-/

namespace Sys2Proof.Machine

/-! ## The codes of the table (R202) -/

theorem selectionBits_eq (r : Selection) :
    r.code = bits r.zoneState r.segment r.mark r.settle false false false false := by
  obtain ⟨zoneState, segment, mark, settle⟩ := r
  revert zoneState segment mark settle
  decide

theorem codesOfTheTable : CodesOfTheTable := by
  refine ⟨fun x => (zoneStateCode_eq x).symm, ?_, fun x => (causeBits_eq x).symm, ?_,
    fun x => (tripCauseCode_eq x).symm, ?_, ?_, selectionBits_eq, ?_, ?_⟩
  all_goals
    intro x
    cases x <;> decide

/-! ## The fields of the record (R209) -/

section
variable (b : Byte) (p : List Byte) (k n : Nat)

theorem nat24_cons_succ : nat24 (b :: p) (k + 1) = nat24 p k := rfl

/-- A three-byte number is shown modulo the width of its field. -/
theorem nat24_be24 : nat24 (byte (n / 65536) :: byte (n / 256) :: byte n :: p) 0 = n % 16777216 := by
  rw [nat24, nat16_cons_succ, nat16_be16, nat8_cons_zero, byte_toNat]
  omega

end

/-- A flag byte is made of its bits. -/
theorem flagByte_eq_bits (a b c d e f g h : Bool) :
    byte (flagBit a 1 + flagBit b 2 + flagBit c 4 + flagBit d 8 + flagBit e 16 + flagBit f 32 + flagBit g 64
      + flagBit h 128) = bits a b c d e f g h := by
  revert a b c d e f g h
  decide

theorem getLsbD_bits {x : Byte} {a b c d e f g h : Bool} (flags : x = bits a b c d e f g h) :
    x.getLsbD 0 = a ∧ x.getLsbD 1 = b ∧ x.getLsbD 2 = c ∧ x.getLsbD 3 = d ∧ x.getLsbD 4 = e ∧ x.getLsbD 5 = f
      ∧ x.getLsbD 6 = g ∧ x.getLsbD 7 = h := by
  simp only [flags, bits, BitVec.getLsbD_ofBoolListLE]
  exact ⟨rfl, rfl, rfl, rfl, rfl, rfl, rfl, rfl⟩

/-- The byte of the restricted mark, the trip cause and the depth of the loop stack. -/
theorem markByte_fields {b : Byte} {mark : Bool} {cause depth : Nat} (small : cause < 8)
    (marks : b = byte (flagBit mark 1 + 2 * cause + 16 * depth)) :
    b.getLsbD 0 = mark ∧ b.toNat / 2 % 8 = cause ∧ b.toNat / 16 = depth % 16 := by
  have weight : flagBit mark 1 = mark.toNat := by cases mark <;> rfl
  have number : b.toNat = (mark.toNat + 2 * cause + 16 * depth) % 256 := by rw [marks, byte_toNat, weight]
  have flag : b.getLsbD 0 = decide (b.toNat % 2 = 1) := by rw [BitVec.getLsbD, Nat.testBit_zero]
  have bound : mark.toNat ≤ 1 := Bool.toNat_le mark
  have low : b.toNat % 2 = mark.toNat := by omega
  refine ⟨?_, by omega, by omega⟩
  rw [flag, low]
  cases mark <;> rfl

theorem Zone.shownTripCause_lt (x : Zone) : x.shownTripCause < 8 := by
  unfold Zone.shownTripCause
  split
  · cases x.trip with
    | none => decide
    | some t =>
      change t.cause.code.toNat < 8
      cases t.cause <;> decide
  · decide

theorem toNat_activeByte (a : Option SlotId) :
    ((a.map fun k => byte k.val).getD 0xFF).toNat = (a.map Fin.val).getD 255 := by
  cases a with
  | none => rfl
  | some k => exact Nat.mod_eq_of_lt (Nat.lt_trans k.isLt (by decide))

/-- A loop stack entry, or 0 where there is none. -/
theorem loopBytes_eq (stack : List Loop) (n : Nat) :
    loopBytes stack n = [byte ((stack[n]?.map Loop.repeatAt).getD 0), byte ((stack[n]?.map Loop.remaining).getD 0)] := by
  unfold loopBytes
  cases stack[n]? <;> rfl

/-! ## ZONE_STATUS (R71, R209) -/

theorem blockZoneStatus_eq (z : ZoneId) (u : State) :
    blockZoneStatus [byte z.val] u = (0x00 :: u.statusBytes z, u) := by
  simp [blockZoneStatus, onZone, Status.bytes]

/-- The four bytes of the live feedback sensor. -/
def State.feedbackBytes (s : State) (z : ZoneId) : List Byte :=
  match (s.zone z).live.feedback with
  | some i => [byte i.val, (s.sensor i).status.code] ++ beS16 (s.sensor i).filtered
  | none => [0xFF, 0, 0, 0]

section
variable {s : State} {z : ZoneId}

theorem feedbackBytes_some {i : SensorId} (there : (s.zone z).live.feedback = some i) :
    s.feedbackBytes z = [byte i.val, (s.sensor i).status.code] ++ beS16 (s.sensor i).filtered := by
  simp only [State.feedbackBytes, there]

theorem feedbackBytes_none (missing : (s.zone z).live.feedback = none) : s.feedbackBytes z = [0xFF, 0, 0, 0] := by
  simp only [State.feedbackBytes, missing]

theorem feedbackBytes_length : (s.feedbackBytes z).length = 4 := by
  unfold State.feedbackBytes
  cases (s.zone z).live.feedback <;> rfl

theorem nat8_feedbackBytes_append (p : List Byte) (i : Nat) : nat8 (s.feedbackBytes z ++ p) (i + 4) = nat8 p i := by
  unfold State.feedbackBytes
  cases (s.zone z).live.feedback <;> rfl

/-- The reply byte by byte, up to the feedback sensor and the loop stack. -/
theorem statusReply_eq {x : Zone} {r : ZoneRec} (zone : s.zone z = x) (record : x.zr = r) :
    0x00 :: s.statusBytes z =
      0x00 :: byte z.val :: r.state.code :: r.causes.code
      :: bits (decide (r.target = .keeping)) r.entered r.runMark r.skip r.holdBack r.expired x.ctl.trimmedLast x.pending
      :: byte (flagBit x.restricted 1 + 2 * x.shownTripCause + 16 * r.stack.length)
      :: (r.active.map (fun k => byte k.val)).getD 0xFF :: byte r.seg
      :: byte (r.elapsed / 65536) :: byte (r.elapsed / 256) :: byte r.elapsed
      :: byte ((r.origin % 65536).toNat / 256) :: byte (r.origin % 65536).toNat
      :: byte ((r.setpoint % 65536).toNat / 256) :: byte (r.setpoint % 65536).toNat :: byte r.steps
      :: byte (x.ctl.acc.toNat / 65536) :: byte (x.ctl.acc.toNat / 256) :: byte x.ctl.acc.toNat
      :: byte (x.ctl.lastDemand / 256) :: byte x.ctl.lastDemand :: byte (x.ctl.lastGrant / 256) :: byte x.ctl.lastGrant
      :: (s.feedbackBytes z ++ (loopBytes r.stack 0 ++ (loopBytes r.stack 1 ++ loopBytes r.stack 2))) := by
  subst record zone
  cases feedback : (s.zone z).live.feedback <;>
    simp [State.statusBytes, State.feedbackBytes, feedback, flagByte_eq_bits, be24, be16, beS16]

end

/-- Settles O25: the codes value by value, the reply field by field. -/
theorem statusShowsTheZone : Obligations.StatusShowsTheZone := by
  refine ⟨codesOfTheTable, ?_⟩
  intro s q z f x r h
  refine ⟨0x00 :: s.statusBytes z, onlyAnswers_of_block h rfl rfl (blockZoneStatus_eq z _), ?_⟩
  rw [statusReply_eq (x := x) (r := r) rfl rfl]
  have number : z.val % 256 = z.val := by omega
  obtain ⟨keeping, entered, runMark, skip, holdBack, expired, trimmed, pending⟩ := getLsbD_bits
    (Eq.refl (bits (decide (r.target = .keeping)) r.entered r.runMark r.skip r.holdBack r.expired x.ctl.trimmedLast
      x.pending))
  obtain ⟨restricted, cause, depth⟩ := markByte_fields (mark := x.restricted) (depth := r.stack.length)
    x.shownTripCause_lt rfl
  refine ⟨?length, rfl, (byte_toNat _).trans number, rfl, rfl, keeping, entered, runMark, skip, holdBack, expired,
    trimmed, pending, restricted, cause, depth, toNat_activeByte _, byte_toNat _, ?elapsed, ?origin, ?setpoint,
    byte_toNat _, ?charge, ?demand, ?grant, ?feedback, ?noFeedback, ?loops⟩
  case length => simp [loopBytes_eq, feedbackBytes_length]
  case feedback =>
    intro i there
    have sensorNumber : i.val % 256 = i.val := by omega
    simp [feedbackBytes_some there, be16, beS16, int16_cons_succ, int16_beS16, sensorNumber]
  case noFeedback =>
    intro missing
    simp [feedbackBytes_none missing, nat16]
  case loops =>
    intro n few
    obtain rfl | rfl | rfl : n = 0 ∨ n = 1 ∨ n = 2 := by omega
    all_goals simp [loopBytes_eq, nat8_feedbackBytes_append]
  all_goals simp [nat16_cons_succ, nat24_cons_succ, int16_cons_succ, nat16_be16, nat24_be24, int16_beS16]

end Sys2Proof.Machine
end
